-- ==== Sys2Proof/Word.lean ====
section
/-! DEFINITION. The word types of the block (spec/00_scope.md R10: every value is unsigned). -/

namespace Sys2Proof

/-- `u8`, the unit of `IN`, `OUT` and `RAW` (R10, R40). -/
abbrev Byte := BitVec 8

/-- `u16`: a `ChecksumValue`, a LENGTH, a table entry (R10, R21). -/
abbrev Half := BitVec 16

/-- `u32`: an image size or an offset (R10, R21, R152). -/
abbrev Word := BitVec 32

end Sys2Proof
end

