-- ==== Sys2Proof/Config.lean ====
section
/-! DEFINITION. The constants the spec fixes (spec/00_scope.md R7), the parameters it leaves to the
implementation (R8) as one record, and the free values: what the spec leaves open and no proof can see. -/

namespace Sys2Proof

/-- First byte of every packet (R7, R61). -/
def MARK_START : Byte := 0x2A
/-- Last byte of every packet (R7, R61). -/
def MARK_END : Byte := 0x23
/-- Command code of START (R7, R62). -/
def CMD_START : Byte := 0x01
/-- Command code of INFO (R7, R62). -/
def CMD_INFO : Byte := 0x02
/-- Command code of DATA (R7, R62). -/
def CMD_DATA : Byte := 0x03
/-- Command code of STOP (R7, R62). -/
def CMD_STOP : Byte := 0x04
/-- Initial value of the CRC accumulator (R7, R90). -/
def CRC_SEED : Half := 0xFFFF
/-- Largest DATA payload in bytes, the source's `ETX_OTA_DATA_MAX_SIZE` (R7, R113). -/
def DATA_MAX : Nat := 128
/-- The fixed payload byte of START (R7, R67). -/
def START_PAYLOAD : Byte := 0x01
/-- The fixed payload byte of STOP (R7, R70). -/
def STOP_PAYLOAD : Byte := 0x01
/-- Payload length of INFO in bytes (R7, R68). -/
def INFO_LEN : Nat := 9
/-- Payload length of every response in bytes (R7, R71). -/
def RSP_LEN : Half := 1
/-- Fewest raw bytes a response can have (R7, R131). -/
def RSP_MIN : Nat := 8
/-- The status byte that means Ack (R7, R72). -/
def STATUS_ACK : Byte := 0x00

/-- `CRC_TABLE`: 256 entries of 16 bits (R8, R30). -/
abbrev CrcTable := Vector Half 256

/-- What the driver does with a response that does not parse (R8, R155). -/
inductive OnMalformed where
  | retry
  | abort
deriving DecidableEq, Repr

/-- The three reasons the source names; which code selects which is not given (R72, R166). -/
inductive NackReason where
  | packetNotAcknowledged
  | responseTimeout
  | firmwareTooLarge
deriving DecidableEq, Repr

/-- The parameters of R8, fixed for a block instance and its driver.
DESIGN CHOICE (log 8): the record is carried in State, so a claim about every state holds for every table and both modes.
`reportsProgress` is the driver's liberty of R162 ("may report"), not a row of R8. -/
structure Config where
  crcTable        : CrcTable
  strict          : Bool
  errorTable      : List (Byte × NackReason)
  onMalformed     : OnMalformed
  waitBound       : Option Nat
  retryMax        : Nat
  reportsProgress : Bool
deriving DecidableEq, Repr

/-- `ERROR_TABLE` is a map from codes 1 to 255 (R8): no code twice, no code 0. -/
def Config.wf (c : Config) : Bool :=
  decide (c.errorTable.map Prod.fst).Nodup && c.errorTable.all fun e => e.1 != STATUS_ACK

/-- Free value: the content of a transient register when no operation runs (U6, R27 to R29).
The second argument is a fresh index, taken from State's `freeCount`. -/
opaque Config.freeBits : (w : Nat) → Nat → BitVec w

/-- Free value: the content of `cnt`, a natural number, when no operation runs (U6, R29). -/
opaque Config.freeNat : Nat → Nat

/-- Free value: what a read of the transport returns once the listed reads are used up: bytes, or a failure (U10, U11, U20).
The argument is a fresh index, taken from the transport's `drawn`. -/
opaque Config.freeRead : Nat → Option (List Byte)

/-- Free value: whether the bound `WAIT_BOUND` has elapsed after so many unsuccessful reads (D21, R163: no unit is given). -/
opaque Config.waitElapsed : (bound reads : Nat) → Bool

end Sys2Proof
end

