-- ==== Sys2Proof/Syntax.lean ====
section
/-! DEFINITION. The data types of spec/10_state.md R21 and the requests of the block: one constructor of `Instr` per
row of spec/opcode_table.json, carrying its operands by value (spec/30_encoding.md R75, R76). -/

namespace Sys2Proof

/-- `CommandKind` (R21, R62). -/
inductive CommandKind where
  | start
  | info
  | firmwareData
  | stop
deriving DecidableEq, Repr

/-- `AckStatus` (R21): `Ack`, or `Nack` with the status byte itself, 1 to 255 (R72). -/
inductive AckStatus where
  | ack
  | nack (code : Byte)
deriving DecidableEq, Repr

/-- `FirmwareMetadata` (R21). -/
structure FirmwareMetadata where
  size    : Word
  type    : Byte
  crc     : Half
  version : Half
deriving DecidableEq, Repr

/-- The bytes of an 8-byte response packet other than its command byte (R71), in wire order.
A response row fixes the command byte alone in lenient mode (R132); the other seven may hold anything. -/
structure RspFields where
  startMark : Byte
  lenLow    : Byte
  lenHigh   : Byte
  status    : Byte
  crcLow    : Byte
  crcHigh   : Byte
  endMark   : Byte
deriving DecidableEq, Repr

/-- One request to the block: the ten rows of spec/opcode_table.json (R80).
The four response rows stand for `PARSE_RESPONSE` of an 8-byte response with that command byte (log 3, DEDUCED). -/
inductive Instr where
  /-- `CHECKSUM(IN)` (R90). -/
  | checksum (input : List Byte)
  /-- `BUILD_START()` (R111). -/
  | buildStart
  /-- `BUILD_INFO(size, type, crc, version)` (R112). -/
  | buildInfo (md : FirmwareMetadata)
  /-- `BUILD_DATA(IN, chunkLen)` (R113). -/
  | buildData (input : List Byte) (chunkLen : Half)
  /-- `BUILD_STOP()` (R114). -/
  | buildStop
  /-- A response with command byte `0x01` (R71, R130). -/
  | rspStart (f : RspFields)
  /-- A response with command byte `0x02` (R71, R130). -/
  | rspInfo (f : RspFields)
  /-- A response with command byte `0x03` (R71, R130). -/
  | rspData (f : RspFields)
  /-- A response with command byte `0x04` (R71, R130). -/
  | rspStop (f : RspFields)
  /-- `PARSE_RESPONSE(RAW)` (R130). -/
  | parseResponse (raw : List Byte)
deriving DecidableEq, Repr

/-- The decode spaces of spec/opcode_table.json (R80): the column `format`. -/
inductive Format where
  | operation
  | commandPacket
  | responsePacket
deriving DecidableEq, Repr

/-- A request as it stands at the block, before it is decoded.
DESIGN CHOICE (log 1): the spec gives the block no command port (R75, R48); this is the model's. -/
structure Request where
  format : Format
  bytes  : List Byte
deriving DecidableEq, Repr

end Sys2Proof
end

