-- ==== Sys2Proof/Machine/Bytes.lean ====
section
/-! DEFINITION. Byte order and the byte forms of the packet fields (spec/00_scope.md R11, spec/20_memory.md R43). -/

namespace Sys2Proof

/-- `lo8(v) = v[7:0]` (R11). -/
def lo8 (v : Half) : Byte := v.extractLsb' 0 8

/-- `hi8(v) = v[15:8]` (R11). -/
def hi8 (v : Half) : Byte := v.extractLsb' 8 8

/-- `le16(v)`, low byte first (R11, R43). -/
def le16 (v : Half) : List Byte := [lo8 v, hi8 v]

/-- `le32(v)`, low byte first (R11, R43). -/
def le32 (v : Word) : List Byte :=
  [v.extractLsb' 0 8, v.extractLsb' 8 8, v.extractLsb' 16 8, v.extractLsb' 24 8]

/-- `from_le16(b0, b1) = zext_16(b0) | (zext_16(b1) << 8)` (R11). -/
def fromLe16 (b0 b1 : Byte) : Half := b0.setWidth 16 ||| (b1.setWidth 16 <<< 8)

/-- The 32-bit value whose `le32` is these four bytes (R11, R43). -/
def fromLe32 (b0 b1 b2 b3 : Byte) : Word :=
  b0.setWidth 32 ||| (b1.setWidth 32 <<< 8) ||| (b2.setWidth 32 <<< 16) ||| (b3.setWidth 32 <<< 24)

/-- The 9-byte INFO payload: size, type, crc, version, each little-endian (R68, R112). -/
def infoPayload (md : FirmwareMetadata) : List Byte :=
  le32 md.size ++ [md.type] ++ le16 md.crc ++ le16 md.version

/-- The wire code of a command kind (R62). -/
def CommandKind.code : CommandKind → Byte
  | .start => CMD_START
  | .info => CMD_INFO
  | .firmwareData => CMD_DATA
  | .stop => CMD_STOP

/-- The kind a command byte names; `0x00` and `0x05` to `0xFF` name none (R62, R73). -/
def kindOfCode (b : Byte) : Option CommandKind :=
  if b = CMD_START then some .start
  else if b = CMD_INFO then some .info
  else if b = CMD_DATA then some .firmwareData
  else if b = CMD_STOP then some .stop
  else none

/-- The eight bytes of a response packet with the given command byte, in wire order (R71). -/
def RspFields.raw (f : RspFields) (command : Byte) : List Byte :=
  [f.startMark, command, f.lenLow, f.lenHigh, f.status, f.crcLow, f.crcHigh, f.endMark]

end Sys2Proof
end

