-- ==== Sys2Proof/WellFormed.lean ====
section
/-! DEFINITION. The preconditions the spec puts on a request (spec/41_packet_framer.md R113, R116) and the range of a
Nack code (spec/10_state.md R21). -/

namespace Sys2Proof

/-- An `AckStatus` as R21 types it: a Nack code is 1 to 255. -/
def AckStatus.wf : AckStatus → Bool
  | .ack => true
  | .nack code => code != STATUS_ACK

/-- The chunk length is at most `DATA_MAX` (R113, U1). -/
def chunkInBound (chunkLen : Half) : Bool := decide (chunkLen.toNat ≤ DATA_MAX)

/-- At least `chunkLen` bytes are supplied (R113, U2). -/
def chunkSupplied (input : List Byte) (chunkLen : Half) : Bool := decide (chunkLen.toNat ≤ input.length)

/-- A well-formed request is one whose operands keep the caller's contract; only `BUILD_DATA` has one (R116, R184). -/
def Instr.wf : Instr → Bool
  | .checksum _ => true
  | .buildStart => true
  | .buildInfo _ => true
  | .buildData input chunkLen => chunkInBound chunkLen && chunkSupplied input chunkLen
  | .buildStop => true
  | .rspStart _ => true
  | .rspInfo _ => true
  | .rspData _ => true
  | .rspStop _ => true
  | .parseResponse _ => true

end Sys2Proof
end

