-- ==== Sys2Proof/Decode.lean ====
section
/-! DEFINITION. Decoding, total on any bytes and rejecting by name, then the encoder. The tables are those of
spec/30_encoding.md R62, R71, R75 and spec/opcode_table.json (R80). -/

namespace Sys2Proof

/-- A row of the table over the first four bytes of a packet (R80). -/
structure HeaderRow where
  kind  : CommandKind
  value : Word
  mask  : Word
deriving DecidableEq, Repr

/-- The first four packet bytes as the table reads them: `byte0 << 24 | byte1 << 16 | byte2 << 8 | byte3` (R80). -/
def header32 (b0 b1 b2 b3 : Byte) : Word := b0 ++ b1 ++ b2 ++ b3

/-- The `command_packet` rows: BUILD_START, BUILD_INFO, BUILD_DATA, BUILD_STOP (R80). -/
def commandRows : List HeaderRow :=
  [⟨.start, 0x2A010100, 0xFFFFFFFF⟩, ⟨.info, 0x2A020900, 0xFFFFFFFF⟩,
   ⟨.firmwareData, 0x2A030000, 0xFFFF00FF⟩, ⟨.stop, 0x2A040100, 0xFFFFFFFF⟩]

/-- The `response_packet` rows as `STRICT = 1` applies them: RSP_START, RSP_INFO, RSP_DATA, RSP_STOP (R80). -/
def responseRows : List HeaderRow :=
  [⟨.start, 0x2A010100, 0xFFFFFFFF⟩, ⟨.info, 0x2A020100, 0xFFFFFFFF⟩,
   ⟨.firmwareData, 0x2A030100, 0xFFFFFFFF⟩, ⟨.stop, 0x2A040100, 0xFFFFFFFF⟩]

/-- The `response_packet` rows as `STRICT = 0` applies them: the command byte alone (R80, R132). -/
def lenientRows : List HeaderRow :=
  [⟨.start, 0x00010000, 0x00FF0000⟩, ⟨.info, 0x00020000, 0x00FF0000⟩,
   ⟨.firmwareData, 0x00030000, 0x00FF0000⟩, ⟨.stop, 0x00040000, 0x00FF0000⟩]

/-- The row a header belongs to: `header32 & mask == match` (R80). -/
def rowOf (rows : List HeaderRow) (header : Word) : Option CommandKind :=
  (rows.find? fun r => header &&& r.mask == r.value).map HeaderRow.kind

/-- Why bytes are no request. -/
inductive DecodeError where
  /-- no byte at all stands at the operation port -/
  | emptyRequest
  /-- an `OPSEL` of `0x6` to `0xF` (R75) -/
  | reservedOpsel (code : Byte)
  /-- the select byte has a bit above the four of `OPSEL` (log 1) -/
  | selectByteTooWide
  /-- fewer operand bytes than the operation has (log 1) -/
  | missingOperands
  /-- more operand bytes than the operation has (log 1) -/
  | surplusOperands
  /-- the first four bytes match no `command_packet` row (R80) -/
  | noCommandRow
  /-- a DATA packet longer than 128 payload bytes, outside its row's constraint (R69, R74 (b)) -/
  | commandTooLong
  /-- a START or STOP packet whose payload byte is not the fixed `0x01` (R67, R70) -/
  | notTheFixedPayload
deriving DecidableEq, Repr

/-- An operation without operands (R75). -/
def decodeBare (i : Instr) : List Byte → Except DecodeError Instr
  | [] => .ok i
  | _ :: _ => .error .surplusOperands

/-- The operands of `BUILD_INFO` in payload order (R68; DESIGN CHOICE, log 1). -/
def decodeInfoOperands : List Byte → Except DecodeError Instr
  | [s0, s1, s2, s3, ty, k0, k1, v0, v1] =>
    .ok (.buildInfo { size := fromLe32 s0 s1 s2 s3, type := ty, crc := fromLe16 k0 k1, version := fromLe16 v0 v1 })
  | ops => if ops.length < INFO_LEN then .error .missingOperands else .error .surplusOperands

/-- The operands of `BUILD_DATA`: `chunkLen`, low byte first, then `IN` (DESIGN CHOICE, log 1). -/
def decodeDataOperands : List Byte → Except DecodeError Instr
  | n0 :: n1 :: input => .ok (.buildData input (fromLe16 n0 n1))
  | _ => .error .missingOperands

/-- The operation port: a byte holding `OPSEL` (R75), then the operands by value (R76; layout DESIGN CHOICE, log 1). -/
def decodeOperation : List Byte → Except DecodeError Instr
  | [] => .error .emptyRequest
  | sel :: ops =>
    match sel.toNat with
    | 0 => .ok (.checksum ops)
    | 1 => decodeBare .buildStart ops
    | 2 => decodeInfoOperands ops
    | 3 => decodeDataOperands ops
    | 4 => decodeBare .buildStop ops
    | 5 => .ok (.parseResponse ops)
    | n => if n < 16 then .error (.reservedOpsel sel) else .error .selectByteTooWide

/-- The builder a one-byte fixed payload stands for (R67, R70). -/
def decodeFixed (i : Instr) (fixed : Byte) : List Byte → Except DecodeError Instr
  | b :: _ => if b = fixed then .ok i else .error .notTheFixedPayload
  | [] => .error .missingOperands

/-- The DATA builder whose LENGTH_LOW is `n` (R69). -/
def decodeDataPacket (n : Byte) (payload : List Byte) : Except DecodeError Instr :=
  if DATA_MAX < n.toNat then .error .commandTooLong
  else if payload.length < n.toNat then .error .missingOperands
  else .ok (.buildData (payload.take n.toNat) (n.setWidth 16))

/-- The builder a command packet belongs to (R77, R80) with its operands read from the payload (R67 to R70).
The checksum and end marker are what the block computes, not operands: they are not read (DESIGN CHOICE, log 2). DESIGN CHOICE
(log 2): whatever follows the payload is ignored, none, too few or too many bytes, so the packet need not be the `7 + L` bytes
long that R66 gives a packet. -/
def decodeCommand : List Byte → Except DecodeError Instr
  | b0 :: b1 :: b2 :: b3 :: payload =>
    match rowOf commandRows (header32 b0 b1 b2 b3) with
    | some .start => decodeFixed .buildStart START_PAYLOAD payload
    | some .info =>
      if payload.length < INFO_LEN then .error .missingOperands else decodeInfoOperands (payload.take INFO_LEN)
    | some .firmwareData => decodeDataPacket b2 payload
    | some .stop => decodeFixed .buildStop STOP_PAYLOAD payload
    | none => .error .noCommandRow
  | _ => .error .noCommandRow

/-- The request for a response of the given kind (R71, R80). -/
def rspOfKind : CommandKind → RspFields → Instr
  | .start => .rspStart
  | .info => .rspInfo
  | .firmwareData => .rspData
  | .stop => .rspStop

/-- A packet coming in (R77): eight bytes with a defined command byte are a response row, as the lenient rows read it;
everything else is `PARSE_RESPONSE` of the bytes as they are, whose outcome is then `Malformed` or ignores the surplus
(R131, R135, R137). The strict row is checked by the meaning, since `STRICT` is no part of the bytes (log 3). -/
def decodeResponse (bytes : List Byte) : Except DecodeError Instr :=
  match bytes with
  | [b0, b1, b2, b3, b4, b5, b6, b7] =>
    match rowOf lenientRows (header32 b0 b1 b2 b3) with
    | some k => .ok (rspOfKind k ⟨b0, b2, b3, b4, b5, b6, b7⟩)
    | none => .ok (.parseResponse bytes)
  | _ => .ok (.parseResponse bytes)

/-- Decoding, by the direction the bytes come from (R80). -/
def decode (r : Request) : Except DecodeError Instr :=
  match r.format with
  | .operation => decodeOperation r.bytes
  | .commandPacket => decodeCommand r.bytes
  | .responsePacket => decodeResponse r.bytes

/-- The request an instruction is: `OPSEL` and operands, or the response packet itself (R71, R75). -/
def encode : Instr → Request
  | .checksum input => ⟨.operation, 0x00 :: input⟩
  | .buildStart => ⟨.operation, [0x01]⟩
  | .buildInfo md => ⟨.operation, 0x02 :: infoPayload md⟩
  | .buildData input chunkLen => ⟨.operation, 0x03 :: (le16 chunkLen ++ input)⟩
  | .buildStop => ⟨.operation, [0x04]⟩
  | .rspStart f => ⟨.responsePacket, f.raw CMD_START⟩
  | .rspInfo f => ⟨.responsePacket, f.raw CMD_INFO⟩
  | .rspData f => ⟨.responsePacket, f.raw CMD_DATA⟩
  | .rspStop f => ⟨.responsePacket, f.raw CMD_STOP⟩
  | .parseResponse raw => ⟨.operation, 0x05 :: raw⟩

/-- The part of a builder's command packet that its operands decide, marker to payload (R67 to R70); none for the others. -/
def commandHead : Instr → Option (List Byte)
  | .buildStart => some [MARK_START, CMD_START, 0x01, 0x00, START_PAYLOAD]
  | .buildInfo md => some ([MARK_START, CMD_INFO, 0x09, 0x00] ++ infoPayload md)
  | .buildData input chunkLen => some ([MARK_START, CMD_DATA] ++ le16 chunkLen ++ input.take chunkLen.toNat)
  | .buildStop => some [MARK_START, CMD_STOP, 0x01, 0x00, STOP_PAYLOAD]
  | .checksum _ => none
  | .rspStart _ => none
  | .rspInfo _ => none
  | .rspData _ => none
  | .rspStop _ => none
  | .parseResponse _ => none

/-- A `BUILD_DATA` request without the bytes its chunk length leaves unread (R113); every other request as it is. -/
def Instr.trimmed : Instr → Instr
  | .buildData input chunkLen => .buildData (input.take chunkLen.toNat) chunkLen
  | i => i

/-- Zero operand bytes for an operation of spec/opcode_table.json's 4-bit rows: as many as the operation must have. -/
def zeroOperands (opsel : Nat) : List Byte :=
  if opsel = 2 then List.replicate INFO_LEN 0 else if opsel = 3 then [0, 0] else []

/-- The LENGTH field of a packet header read as the table reads it (R63, R80). -/
def headerLength (header : Word) : Half := fromLe16 (header.extractLsb' 8 8) (header.extractLsb' 0 8)

/-- The request whose bits are `w`, numbered as spec/opcode_table.json numbers them (R80): up to 8 bits are an `OPSEL`;
32 bits are the first four packet bytes, byte 0 the most significant, and the rest of the packet's `7 + L` bytes (R66) are 0.
The table does not say the direction of a packet word: DESIGN CHOICE (log 4), a word that is a strict response row is read
as a response, any other as a command packet. -/
def tableRequest (nbits w : Nat) : Request :=
  if nbits ≤ 8 then ⟨.operation, BitVec.ofNat 8 w :: zeroOperands w⟩
  else
    let header := BitVec.ofNat 32 w
    let bytes := (le32 header).reverse ++ List.replicate (3 + (headerLength header).toNat) 0
    if (rowOf responseRows header).isSome then ⟨.responsePacket, bytes⟩ else ⟨.commandPacket, bytes⟩

/-- The instruction the decoder reads from a table word; none where it refuses. -/
def decodeTableWord (nbits w : Nat) : Option Instr := (decode (tableRequest nbits w)).toOption

end Sys2Proof
end

