-- ==== Sys2Proof/Machine/CrcTable.lean ====
section
/-! DEFINITION. The default `CRC_TABLE` of spec/40_checksum_engine.md R93, entry by entry as the spec prints it, and
the default configuration of spec/00_scope.md R8. -/

namespace Sys2Proof

/-- Entries `0x00` to `0x1F` of the default table (R93). -/
def crcRows0 : List Half :=
  [0x0000, 0x1021, 0x2042, 0x3063, 0x4084, 0x50A5, 0x60C6, 0x70E7,
   0x8108, 0x9129, 0xA14A, 0xB16B, 0xC18C, 0xD1AD, 0xE1CE, 0xF1EF,
   0x1231, 0x0210, 0x3273, 0x2252, 0x52B5, 0x4294, 0x72F7, 0x62D6,
   0x9339, 0x8318, 0xB37B, 0xA35A, 0xD3BD, 0xC39C, 0xF3FF, 0xE3DE]

/-- Entries `0x20` to `0x3F` of the default table (R93). -/
def crcRows1 : List Half :=
  [0x2462, 0x3443, 0x0420, 0x1401, 0x64E6, 0x74C7, 0x44A4, 0x5485,
   0xA56A, 0xB54B, 0x8528, 0x9509, 0xE5EE, 0xF5CF, 0xC5AC, 0xD58D,
   0x3653, 0x2672, 0x1611, 0x0630, 0x76D7, 0x66F6, 0x5695, 0x46B4,
   0xB75B, 0xA77A, 0x9719, 0x8738, 0xF7DF, 0xE7FE, 0xD79D, 0xC7BC]

/-- Entries `0x40` to `0x5F` of the default table (R93). -/
def crcRows2 : List Half :=
  [0x48C4, 0x58E5, 0x6886, 0x78A7, 0x0840, 0x1861, 0x2802, 0x3823,
   0xC9CC, 0xD9ED, 0xE98E, 0xF9AF, 0x8948, 0x9969, 0xA90A, 0xB92B,
   0x5AF5, 0x4AD4, 0x7AB7, 0x6A96, 0x1A71, 0x0A50, 0x3A33, 0x2A12,
   0xDBFD, 0xCBDC, 0xFBBF, 0xEB9E, 0x9B79, 0x8B58, 0xBB3B, 0xAB1A]

/-- Entries `0x60` to `0x7F` of the default table (R93). -/
def crcRows3 : List Half :=
  [0x6CA6, 0x7C87, 0x4CE4, 0x5CC5, 0x2C22, 0x3C03, 0x0C60, 0x1C41,
   0xEDAE, 0xFD8F, 0xCDEC, 0xDDCD, 0xAD2A, 0xBD0B, 0x8D68, 0x9D49,
   0x7E97, 0x6EB6, 0x5ED5, 0x4EF4, 0x3E13, 0x2E32, 0x1E51, 0x0E70,
   0xFF9F, 0xEFBE, 0xDFDD, 0xCFFC, 0xBF1B, 0xAF3A, 0x9F59, 0x8F78]

/-- Entries `0x80` to `0x9F` of the default table (R93). -/
def crcRows4 : List Half :=
  [0x9188, 0x81A9, 0xB1CA, 0xA1EB, 0xD10C, 0xC12D, 0xF14E, 0xE16F,
   0x1080, 0x00A1, 0x30C2, 0x20E3, 0x5004, 0x4025, 0x7046, 0x6067,
   0x83B9, 0x9398, 0xA3FB, 0xB3DA, 0xC33D, 0xD31C, 0xE37F, 0xF35E,
   0x02B1, 0x1290, 0x22F3, 0x32D2, 0x4235, 0x5214, 0x6277, 0x7256]

/-- Entries `0xA0` to `0xBF` of the default table (R93). -/
def crcRows5 : List Half :=
  [0xB5EA, 0xA5CB, 0x95A8, 0x8589, 0xF56E, 0xE54F, 0xD52C, 0xC50D,
   0x34E2, 0x24C3, 0x14A0, 0x0481, 0x7466, 0x6447, 0x5424, 0x4405,
   0xA7DB, 0xB7FA, 0x8799, 0x97B8, 0xE75F, 0xF77E, 0xC71D, 0xD73C,
   0x26D3, 0x36F2, 0x0691, 0x16B0, 0x6657, 0x7676, 0x4615, 0x5634]

/-- Entries `0xC0` to `0xDF` of the default table (R93). -/
def crcRows6 : List Half :=
  [0xD94C, 0xC96D, 0xF90E, 0xE92F, 0x99C8, 0x89E9, 0xB98A, 0xA9AB,
   0x5844, 0x4865, 0x7806, 0x6827, 0x18C0, 0x08E1, 0x3882, 0x28A3,
   0xCB7D, 0xDB5C, 0xEB3F, 0xFB1E, 0x8BF9, 0x9BD8, 0xABBB, 0xBB9A,
   0x4A75, 0x5A54, 0x6A37, 0x7A16, 0x0AF1, 0x1AD0, 0x2AB3, 0x3A92]

/-- Entries `0xE0` to `0xFF` of the default table (R93). -/
def crcRows7 : List Half :=
  [0xFD2E, 0xED0F, 0xDD6C, 0xCD4D, 0xBDAA, 0xAD8B, 0x9DE8, 0x8DC9,
   0x7C26, 0x6C07, 0x5C64, 0x4C45, 0x3CA2, 0x2C83, 0x1CE0, 0x0CC1,
   0xEF1F, 0xFF3E, 0xCF5D, 0xDF7C, 0xAF9B, 0xBFBA, 0x8FD9, 0x9FF8,
   0x6E17, 0x7E36, 0x4E55, 0x5E74, 0x2E93, 0x3EB2, 0x0ED1, 0x1EF0]

/-- The printed rows are 256 entries (R30, R93). -/
theorem crcRows_length :
    (crcRows0 ++ crcRows1 ++ crcRows2 ++ crcRows3 ++ crcRows4 ++ crcRows5 ++ crcRows6 ++ crcRows7).length = 256 := by
  have h : crcRows0.length = 32 ∧ crcRows1.length = 32 ∧ crcRows2.length = 32 ∧ crcRows3.length = 32 ∧
      crcRows4.length = 32 ∧ crcRows5.length = 32 ∧ crcRows6.length = 32 ∧ crcRows7.length = 32 :=
    ⟨rfl, rfl, rfl, rfl, rfl, rfl, rfl, rfl⟩
  simp only [List.length_append, h]

/-- The default `CRC_TABLE` (R93). PRESUMED (log 7): the spec marks its entries as general knowledge; the source prints none.
A claim that needs an entry of it says so; every other claim is about any table. -/
def defaultCrcTable : CrcTable :=
  ⟨⟨crcRows0 ++ crcRows1 ++ crcRows2 ++ crcRows3 ++ crcRows4 ++ crcRows5 ++ crcRows6 ++ crcRows7⟩,
    crcRows_length⟩

/-- One doubling of the procedure that generates the default table: `trunc_16(r << 1) ^ (0x1021 if r[15])` (R93). -/
def crcDouble (r : Half) : Half := (r <<< 1) ^^^ (if r.msb then 0x1021#16 else 0#16)

/-- `r_8` of the generating procedure, starting from `r_0 = i << 8` (R93). -/
def crcGenerated (i : Byte) : Half := Nat.iterate crcDouble 8 (i.setWidth 16 <<< 8)

/-- The defaults of R8: default table, lenient, no error table, retry, no wait bound, no retries.
DESIGN CHOICE (log 18): the driver reports progress; the spec only says it may. -/
def Config.default : Config :=
  { crcTable := defaultCrcTable, strict := false, errorTable := [], onMalformed := .retry, waitBound := none,
    retryMax := 0, reportsProgress := true }

end Sys2Proof
end

