-- ==== Sys2Proof/Machine/State.lean ====
section
/-! DEFINITION. The machine's state as plain data: the block (spec/10_state.md), its driver
(spec/43_session_controller.md R152, R153) and the transport between driver and device (R151). -/

namespace Sys2Proof.Machine

open Sys2Proof

/-- The spec has no stop: every error is an outcome of an operation (R180). -/
inductive Fault where
  /-- Raised by the driver when the outcome it finds is of a kind it does not await (a checksum where it asked for a
  packet); no run of the reference driver reaches it (DESIGN CHOICE, log 23). Safe: the machine stops. -/
  | unexpectedResult
deriving DecidableEq, Repr

/-- Requests to which the spec gives no meaning (R184, U1 to U3, U5). -/
inductive Refusal where
  /-- Raised by an arm of exec that has no meaning yet. Safe. -/
  | notModelled (mnemonic : String)
  /-- Raised by `BUILD_DATA` with `chunkLen > 128` or `chunkLen > len(IN)` (R116, U1, U2). Safe. -/
  | contractViolation
  /-- Raised by `CHECKSUM`, `BUILD_*` and strict `PARSE_RESPONSE` before `CRC_TABLE` is initialised (R213, U5). Safe. -/
  | tableNotInitialised
  /-- Raised by step for an `OPSEL` of `0x6` to `0xF` (R75, R184, U3). Safe. -/
  | reservedOpsel
  /-- Raised by step for a request beside another, or beside an outcome not yet taken (R184, R215, U3). Safe. -/
  | overlappingRequest
  /-- Raised by step for bytes that are no request at the model's own port (log 1, log 2). Safe. -/
  | notARequest
deriving DecidableEq, Repr

/-- The value an operation returns (R75). -/
inductive OpValue where
  | checksum (c : Half)
  | packet (p : List Byte)
  | response (kind : CommandKind) (status : AckStatus)
deriving DecidableEq, Repr

/-- The error outcomes of `PARSE_RESPONSE`; an error records its kind and nothing else (R180 to R183). -/
inductive ParseError where
  | malformed
  | checksumMismatch
deriving DecidableEq, Repr

/-- The closed set of outcomes (R180). -/
inductive OpOutcome where
  | ok (v : OpValue)
  | error (e : ParseError)
deriving DecidableEq, Repr

/-- The transient registers (R27 to R29). -/
structure Regs where
  crc   : Half
  cmd   : Byte
  plen  : Half
  pos   : Byte
  cnt   : Nat
  rcmd  : Byte
  rstat : Byte
  rlen  : Half
  rcrc  : Half
deriving DecidableEq, Repr

/-- The operand and result spaces; none of them exists outside an operation (R31, R33, R40; log 22). -/
structure Spaces where
  input : Option (List Byte)
  out   : Option (List Byte)
  raw   : Option (List Byte)
deriving DecidableEq, Repr

/-- No space exists (R33). -/
def Spaces.absent : Spaces := ⟨none, none, none⟩

/-- The reason a session ends early (R159, R163, R164, R166). -/
inductive AbortReason where
  /-- a Nack with this code, kept raw (R166) -/
  | nack (code : Byte)
  /-- a failed write or read (R164) -/
  | transportError
  /-- the bound on a wait has elapsed, hardened driver only (R163) -/
  | timeout
  /-- a response did not parse, `ON_MALFORMED = abort` only (R155) -/
  | unparsed (e : ParseError)
deriving DecidableEq, Repr

/-- `SessionState` (R152); the offset of `SendingData` and `AwaitingDataAck` is the driver's `offset`. -/
inductive Phase where
  | idle
  | awaitingStartAck
  | awaitingInfoAck
  | sendingData
  | awaitingDataAck
  | awaitingStopAck
  | completed
  | aborted (reason : AbortReason)
deriving DecidableEq, Repr

/-- `SessionResult` (R150): `Completed`, or `Aborted` with its reason and the name `ERROR_TABLE` gives it, if any (R166). -/
inductive SessionResult where
  | completed
  | aborted (reason : AbortReason) (named : Option NackReason)
deriving DecidableEq, Repr

/-- The driver's place inside a session state, one step of the machine each (DESIGN CHOICE, log 12). -/
inductive Act where
  /-- no session runs -/
  | rest
  /-- about to request the packet this state sends -/
  | build
  /-- that request is made; its outcome is awaited -/
  | awaitPacket
  /-- about to read the transport and request the parse (R155) -/
  | listen
  /-- that request is made; its outcome is awaited -/
  | awaitParse
deriving DecidableEq, Repr

/-- The firmware source, read-only: `size()` and the bytes `bytesAt` serves (R151, R153). -/
structure FirmwareSource where
  size  : Word
  bytes : List Byte
deriving DecidableEq, Repr

/-- What the driver is asked to do: one direct request of the block (R168), or `runUpdateSession` (R150). -/
inductive Task where
  | request (r : Request)
  | session (source : FirmwareSource) (metadata : FirmwareMetadata)
deriving DecidableEq, Repr

/-- The driver's state (R152, R153), and the `RAW` bytes it last passed in to a parse, which it still holds (R183; log 25). -/
structure Driver where
  phase    : Phase
  act      : Act
  offset   : Word
  source   : FirmwareSource
  metadata : FirmwareMetadata
  retries  : Nat
  waited   : Nat
  progress : List (Word × Word)
  tasks    : List Task
  heldRaw  : Option (List Byte)
deriving DecidableEq, Repr

/-- The result of one `readAvailable()` (R151): bytes, possibly none, or a failure (U10, U11, U20). -/
inductive ReadResult where
  | bytes (b : List Byte)
  | failed
deriving DecidableEq, Repr

/-- The result of one `write` (R151): done, or failed after so many bytes (U20, N17). -/
inductive WriteResult where
  | done
  | failed (written : Nat)
deriving DecidableEq, Repr

/-- What the reads return once the listed ones are used up, without end (R168, R222; log 13). -/
inductive LaterReads where
  /-- these results over and over, in order; with none of them, empty reads: the device stays silent -/
  | cycle (rs : List ReadResult)
  /-- a free draw each -/
  | free
deriving DecidableEq, Repr

/-- The transport: what has been written, what its next reads return and the reads after those, how many free draws have
been read, and what its next writes return (R168; log 13). -/
structure Transport where
  sent   : List (List Byte)
  reads  : List ReadResult
  later  : LaterReads
  drawn  : Nat
  writes : List WriteResult
deriving DecidableEq, Repr

/-- The state of the whole machine. -/
structure State where
  config       : Config
  tableReady   : Bool
  requests     : List Request
  result       : Option OpOutcome
  resetPending : Bool
  regs         : Regs
  spaces       : Spaces
  freeCount    : Nat
  driver       : Driver
  transport    : Transport
deriving DecidableEq, Repr

/-- The transient registers at reset. DESIGN CHOICE (log 6): R33 leaves them unspecified; the model names zero. -/
def Regs.reset : Regs := ⟨0, 0, 0, 0, 0, 0, 0, 0, 0⟩

/-- The driver at reset: `Idle` (R33); no session has set the rest (DESIGN CHOICE, log 12). -/
def Driver.reset : Driver :=
  { phase := .idle, act := .rest, offset := 0, source := ⟨0, []⟩, metadata := ⟨0, 0, 0, 0⟩, retries := 0, waited := 0,
    progress := [], tasks := [], heldRaw := none }

/-- The transport at reset: nothing written, every read a free draw (U10; DESIGN CHOICE, log 13). No write result is listed, so
with nothing else placed every write of a run from reset succeeds, where the spec leaves open whether and when a write fails
(R164, U20; DESIGN CHOICE, UNSAFE, log 13). -/
def Transport.reset : Transport := { sent := [], reads := [], later := .free, drawn := 0, writes := [] }

/-- A block instance configured with `c`, right after reset: idle, table and constants valid (R33, R210). -/
def State.resetWith (c : Config) : State :=
  { config := c, tableReady := true, requests := [], result := none, resetPending := false, regs := Regs.reset,
    spaces := Spaces.absent, freeCount := 0, driver := Driver.reset, transport := Transport.reset }

/-- The machine right after reset, with the default parameters of R8 (R33, R210). -/
def State.reset : State := State.resetWith Config.default

end Sys2Proof.Machine
end

