-- ==== Sys2Proof/Machine/Flags.lean ====
section
/-! DEFINITION. The block has no status flags and no condition codes (spec/10_state.md R24); what takes their place is
the result code of an outcome (spec/60_exceptions.md R180) and the status byte of a response (spec/30_encoding.md R72). -/

namespace Sys2Proof.Machine

open Sys2Proof

/-- `RES_OK`, `RES_MALFORMED`, `RES_CHECKSUM_MISMATCH` (R180). -/
def OpOutcome.code : OpOutcome → Nat
  | .ok _ => 0
  | .error .malformed => 1
  | .error .checksumMismatch => 2

/-- Status decoding: `0x00` is `Ack`, any other byte is `Nack` of itself (R72, R136). -/
def decodeStatus (ss : Byte) : AckStatus := if ss = STATUS_ACK then .ack else .nack ss

end Sys2Proof.Machine
end

