-- ==== Sys2Proof/Machine/Operands.lean ====
section
/-! DEFINITION. Every operand form: the operand spaces and the reads of them (spec/20_memory.md R40 to R42), the bytes of a
response (spec/42_response_interpreter.md R130), and the driver's operands of `BUILD_DATA`
(spec/43_session_controller.md R157). -/

namespace Sys2Proof.Machine

open Sys2Proof

/-- `s[a..b)`: the bytes at indices `a` to `b - 1` (R11). -/
def slice (s : List Byte) (a b : Nat) : List Byte := (s.take b).drop a

/-- One byte of a space; none outside it, and none when the space does not exist (R11, R40, R42). -/
def readByte (space : Option (List Byte)) (i : Nat) : Option Byte := space.bind fun s => s[i]?

/-- `MemRead(S:0, n)`: the first `n` bytes of a space in index order (R12, R113). -/
def readBytes (space : Option (List Byte)) (n : Nat) : List Byte := slice (space.getD []) 0 n

/-- The bytes of a space as cells: address, byte. A space is dense, so this is its one canonical form (R40; DEDUCED, log 21). -/
def Memory.cells (space : Option (List Byte)) : List Host.Cell := (space.getD []).zipIdx.map fun p => (p.2, p.1)

/-- Canonical form: addresses strictly rising. A space has no unlisted address that reads as anything (R40, R42). -/
def Memory.wf : List Host.Cell → Bool
  | [] => true
  | [_] => true
  | a :: b :: m => decide (a.1 < b.1) && Memory.wf (b :: m)

/-- The eight bytes a response check may read, with their command byte; none when fewer than 8 are presented (R131, R137). -/
def rspBytes : List Byte → Option (Byte × RspFields)
  | b0 :: b1 :: b2 :: b3 :: b4 :: b5 :: b6 :: b7 :: _ => some (b1, ⟨b0, b2, b3, b4, b5, b6, b7⟩)
  | _ => none

/-- The `RAW` operand of a parse; the other operations have none (R31, R40). -/
def rawOperand : Instr → Option (List Byte)
  | .parseResponse raw => some raw
  | .rspStart f => some (f.raw CMD_START)
  | .rspInfo f => some (f.raw CMD_INFO)
  | .rspData f => some (f.raw CMD_DATA)
  | .rspStop f => some (f.raw CMD_STOP)
  | .checksum _ => none
  | .buildStart => none
  | .buildInfo _ => none
  | .buildData _ _ => none
  | .buildStop => none

/-- `bytesAt(offset, length)` of the firmware source (R151, R157); beyond its end it serves what there is (log 19). -/
def FirmwareSource.bytesAt (src : FirmwareSource) (offset length : Nat) : List Byte :=
  slice src.bytes offset (offset + length)

/-- `size()` tells the number of bytes the source serves (R151, R153, R214). -/
def FirmwareSource.wf (src : FirmwareSource) : Bool := decide (src.bytes.length = src.size.toNat)

/-- `n = min(128, total_size - offset)` (R157). -/
def chunkLength (total offset : Word) : Nat := min DATA_MAX (total.toNat - offset.toNat)

end Sys2Proof.Machine
end

