-- ==== Sys2Proof/Machine/Ops.lean ====
section
/-! DEFINITION. The operations the meanings share: the checksum (spec/40_checksum_engine.md), the byte-serial framing
(spec/41_packet_framer.md R110), how an operation ends (spec/60_exceptions.md R180, R188), and how a request stands at
the block and its outcome leaves it (spec/20_memory.md R50). -/

namespace Sys2Proof.Machine

open Sys2Proof

/-! ### The checksum as a function of the table and the bytes -/

/-- `MemRead(TABLE:idx, 1)`; the 8-bit index is always in range (R41, R97). -/
def tableRead (t : CrcTable) (idx : Byte) : Half := t.get idx.toFin

/-- The step: `trunc_16(crc << 8) ^ TABLE[crc[15:8] ^ b]` (R91). -/
def crcStep (t : CrcTable) (crc : Half) (b : Byte) : Half := (crc <<< 8) ^^^ tableRead t (hi8 crc ^^^ b)

/-- The accumulator after the steps of `s`, from a given start (R96). -/
def checksumFrom (t : CrcTable) (crc : Half) (s : List Byte) : Half := s.foldl (crcStep t) crc

/-- `checksum(s)` (R90). -/
def checksum (t : CrcTable) (s : List Byte) : Half := checksumFrom t CRC_SEED s

/-- The checksummed slice `COMMAND | LENGTH_LOW | LENGTH_HIGH | PAYLOAD` (R65, R110). -/
def checkedSlice (cmd : Byte) (payload : List Byte) : List Byte :=
  cmd :: (le16 (BitVec.ofNat 16 payload.length) ++ payload)

/-- `frame(cmd, payload)` as a function: the packet of R60 (R110). -/
def frame (t : CrcTable) (cmd : Byte) (payload : List Byte) : List Byte :=
  MARK_START :: (checkedSlice cmd payload ++ le16 (checksum t (checkedSlice cmd payload)) ++ [MARK_END])

/-! ### The transient registers and spaces -/

/-- Registers between operations: any value (U6). Every register draws at an index of its own. -/
def Regs.unspecified (k : Nat) : Regs :=
  { crc := Config.freeBits 16 (8 * k), cmd := Config.freeBits 8 (8 * k + 1), plen := Config.freeBits 16 (8 * k + 2),
    pos := Config.freeBits 8 (8 * k + 3), cnt := Config.freeNat k, rcmd := Config.freeBits 8 (8 * k + 4),
    rstat := Config.freeBits 8 (8 * k + 5), rlen := Config.freeBits 16 (8 * k + 6),
    rcrc := Config.freeBits 16 (8 * k + 7) }

/-- `crc <- CRC_SEED` (R27, R90). -/
def State.loadSeed (s : State) : State := { s with regs := { s.regs with crc := CRC_SEED } }

/-- `crc <- step(crc, b)` (R91). -/
def State.feed (s : State) (b : Byte) : State :=
  { s with regs := { s.regs with crc := crcStep s.config.crcTable s.regs.crc b } }

/-- One step per byte, in increasing index order (R23, R90). -/
def State.feedAll (s : State) (bs : List Byte) : State := bs.foldl State.feed s

/-- `IN` is supplied with the request (R31). -/
def State.loadIn (s : State) (input : List Byte) : State := { s with spaces := { s.spaces with input := some input } }

/-- `emit(b)`: append to `OUT` and advance `pos` (R12, R28, R47). -/
def State.emit (s : State) (b : Byte) : State :=
  { s with
    spaces := { s.spaces with out := some (s.spaces.out.getD [] ++ [b]) }
    regs := { s.regs with pos := s.regs.pos + 1 } }

/-- Emit the bytes of a sequence in index order (R12). -/
def State.emitAll (s : State) (bs : List Byte) : State := bs.foldl State.emit s

/-- Emit a byte of the checksummed slice and apply the step to it (R110). -/
def State.emitFed (s : State) (b : Byte) : State := (s.emit b).feed b

/-- Emit the checksummed slice (R110). -/
def State.emitFedAll (s : State) (bs : List Byte) : State := bs.foldl State.emitFed s

/-- Load the framer's registers: `cmd`, `plen`, `pos = 0`, an empty `OUT` (R28). -/
def State.beginFrame (s : State) (cmd : Byte) (payload : List Byte) : State :=
  { s with
    regs := { s.regs with cmd := cmd, plen := BitVec.ofNat 16 payload.length, pos := 0 }
    spaces := { s.spaces with out := some [] } }

/-- `frame(cmd, payload)` in byte-serial terms (R110): the marker, the seed, the slice through the step, the checksum low
byte first, the marker. -/
def State.emitFrame (s : State) (cmd : Byte) (payload : List Byte) : State :=
  let s := ((s.beginFrame cmd payload).emit MARK_START).loadSeed
  let s := s.emitFedAll (s.regs.cmd :: (le16 s.regs.plen ++ payload))
  (s.emitAll (le16 s.regs.crc)).emit MARK_END

/-- `RAW` is supplied with the request and `cnt` counts it (R29, R31). -/
def State.loadRaw (s : State) (raw : List Byte) : State :=
  { s with spaces := { s.spaces with raw := some raw }, regs := { s.regs with cnt := raw.length } }

/-- The start of a parse: `RAW` and `cnt`, and in strict mode `crc`, seeded for the checksum to come (R27, R29). No byte of
`RAW` is read yet (R131). -/
def State.beginParse (s : State) (raw : List Byte) : State :=
  if s.config.strict then (s.loadRaw raw).loadSeed else s.loadRaw raw

/-- `rcmd` and `rstat`, loaded in both modes (R29, R132). -/
def State.loadResponse (s : State) (command : Byte) (f : RspFields) : State :=
  { s with regs := { s.regs with rcmd := command, rstat := f.status } }

/-- `rlen` and `rcrc`, loaded in strict mode (R29). -/
def State.loadStrict (s : State) (f : RspFields) : State :=
  { s with regs := { s.regs with rlen := fromLe16 f.lenLow f.lenHigh, rcrc := fromLe16 f.crcLow f.crcHigh } }

/-- The copies of `RAW` bytes a parse works on, all loaded before its first check of them: as soon as the count check has passed
(R29, R131, R132). -/
def State.copyResponse (s : State) (command : Byte) (f : RspFields) : State :=
  if s.config.strict then (s.loadResponse command f).loadStrict f else s.loadResponse command f

/-! ### The end of an operation -/

/-- An operation ends with its one outcome (R180): the answered request leaves, the outcome stands for the driver to take,
the spaces are gone and the transient registers hold any value (R20, R33, R188, U6). -/
def State.conclude (s : State) (o : OpOutcome) : State :=
  { s with
    requests := s.requests.tail, result := some o, regs := Regs.unspecified s.freeCount, spaces := Spaces.absent
    freeCount := s.freeCount + 1 }

/-- `return v` (R12). -/
def State.deliver (s : State) (v : OpValue) : Host.Outcome State Fault Refusal := .next (s.conclude (.ok v))

/-- `raise <Outcome>`: the operation ends at once with an error outcome and no other result; nothing is saved, since there
is nothing to save, and the block is idle afterwards (R12, R183, R188). There is no return from it (R189). -/
def State.raise (s : State) (e : ParseError) : Host.Outcome State Fault Refusal := .next (s.conclude (.error e))

/-- A request that reads `CRC_TABLE` has no meaning before the table is initialised (R213 (a), U5; DEDUCED,
log 9). -/
def State.needTable (s : State) (k : State → Host.Outcome State Fault Refusal) : Host.Outcome State Fault Refusal :=
  if s.tableReady then k s else .refused .tableNotInitialised

/-! ### Between block and driver -/

/-- The driver puts a request to the block (R50). -/
def State.present (s : State) (i : Instr) : State := { s with requests := s.requests ++ [encode i] }

/-- The driver takes the outcome; it is gone then (R24). -/
def State.takeResult (s : State) : State := { s with result := none }

/-- A reset lands: an operation in progress is abandoned without a result; the table is valid after it; driver and
transport are not touched (R210, R212, R213; log 11). -/
def State.blockReset (s : State) : State :=
  { s with
    requests := [], result := none, resetPending := false, tableReady := true, regs := Regs.unspecified s.freeCount
    spaces := Spaces.absent, freeCount := s.freeCount + 1 }

/-- The refusal a decoding error turns into (R184; log 1, log 2). -/
def refusalOf : DecodeError → Refusal
  | .reservedOpsel _ => .reservedOpsel
  | .emptyRequest => .notARequest
  | .selectByteTooWide => .notARequest
  | .missingOperands => .notARequest
  | .surplusOperands => .notARequest
  | .noCommandRow => .notARequest
  | .commandTooLong => .contractViolation
  | .notTheFixedPayload => .notARequest

end Sys2Proof.Machine
end

