-- ==== Sys2Proof/Machine/Checksum.lean ====
section
/-! DEFINITION. The Checksum Engine: the meaning of CHECKSUM (spec/40_checksum_engine.md). -/

namespace Sys2Proof.Machine

open Sys2Proof

/-- `CHECKSUM(IN)` (R90): seed, one step per byte of `IN`, the accumulator is the result. It cannot raise. -/
def execChecksum (input : List Byte) (s : State) : Host.Outcome State Fault Refusal :=
  s.needTable fun s =>
    let s := (s.loadIn input).loadSeed
    let s := s.feedAll (readBytes s.spaces.input input.length)
    s.deliver (.checksum s.regs.crc)

end Sys2Proof.Machine
end

