-- ==== Sys2Proof/Machine/Framer.lean ====
section
/-! DEFINITION. The Packet Framer: the meanings of BUILD_START, BUILD_INFO, BUILD_DATA, BUILD_STOP
(spec/41_packet_framer.md). -/

namespace Sys2Proof.Machine

open Sys2Proof

/-- Frame a payload and return `OUT` (R110). A procedure of the block, not an operation a driver can request. -/
def buildPacket (cmd : Byte) (payload : List Byte) (s : State) : Host.Outcome State Fault Refusal :=
  s.needTable fun s =>
    let s := s.emitFrame cmd payload
    s.deliver (.packet (s.spaces.out.getD []))

/-- `BUILD_START()`: `frame(0x01, [0x01])` (R111). -/
def execBuildStart (s : State) : Host.Outcome State Fault Refusal := buildPacket CMD_START [START_PAYLOAD] s

/-- `BUILD_INFO(size, type, crc, version)`: `frame(0x02, payload)` with the nine bytes of R68; the fields are copied,
not checked (R112). -/
def execBuildInfo (md : FirmwareMetadata) (s : State) : Host.Outcome State Fault Refusal :=
  buildPacket CMD_INFO (infoPayload md) s

/-- `BUILD_DATA(IN, chunkLen)`: refused outside its contract, else `frame(0x03, IN[0 .. chunkLen))`; the bytes beyond are
not read (R113, R116). -/
def execBuildData (input : List Byte) (chunkLen : Half) (s : State) : Host.Outcome State Fault Refusal :=
  if DATA_MAX < chunkLen.toNat ∨ input.length < chunkLen.toNat then .refused .contractViolation
  else
    let s := s.loadIn input
    buildPacket CMD_DATA (readBytes s.spaces.input chunkLen.toNat) s

/-- `BUILD_STOP()`: `frame(0x04, [0x01])` (R114). -/
def execBuildStop (s : State) : Host.Outcome State Fault Refusal := buildPacket CMD_STOP [STOP_PAYLOAD] s

end Sys2Proof.Machine
end

