-- ==== Sys2Proof/Machine/Response.lean ====
section
/-! DEFINITION. The Response Interpreter: the meanings of PARSE_RESPONSE and of the four response rows
(spec/42_response_interpreter.md). -/

namespace Sys2Proof.Machine

open Sys2Proof

/-- The three framing checks of strict mode (R133): start marker, length field 1, end marker. -/
def framingOk (startMark : Byte) (rlen : Half) (endMark : Byte) : Bool :=
  startMark == MARK_START && rlen == RSP_LEN && endMark == MARK_END

/-- The checksum check of strict mode, made last (R134): `crc`, seeded when the parse began (R27, R29), runs
over the four bytes at offsets 1 to 4 and is compared with `rcrc`. -/
def checkResponseChecksum (kind : CommandKind) (command : Byte) (f : RspFields) (s : State) :
    Host.Outcome State Fault Refusal :=
  let s := s.feedAll [command, f.lenLow, f.lenHigh, f.status]
  if s.regs.rcrc = s.regs.crc then s.deliver (.response kind (decodeStatus s.regs.rstat))
  else s.raise .checksumMismatch

/-- What follows the count check: the registers are loaded (R29), then the checks run on them in the order of R187: strict
framing, command byte, strict checksum. -/
def interpret (command : Byte) (f : RspFields) (s : State) : Host.Outcome State Fault Refusal :=
  let s := s.copyResponse command f
  if s.config.strict && !framingOk f.startMark s.regs.rlen f.endMark then s.raise .malformed
  else
    match kindOfCode s.regs.rcmd with
    | none => s.raise .malformed
    | some kind =>
      if s.config.strict then checkResponseChecksum kind command f s
      else s.deliver (.response kind (decodeStatus s.regs.rstat))

/-- The whole of `PARSE_RESPONSE(RAW)`: the count check comes first, before any byte is read (R130, R131). -/
def interpretRaw (raw : List Byte) (s : State) : Host.Outcome State Fault Refusal :=
  if s.config.strict && !s.tableReady then .refused .tableNotInitialised
  else
    let s := s.beginParse raw
    if s.regs.cnt < RSP_MIN then s.raise .malformed
    else
      match rspBytes raw with
      | none => s.raise .malformed
      | some (command, f) => interpret command f s

/-- `PARSE_RESPONSE(RAW)` (R130). -/
def execParseResponse (raw : List Byte) (s : State) : Host.Outcome State Fault Refusal := interpretRaw raw s

/-- RSP_START: an 8-byte response with command byte `0x01` is parsed (R71, R80, R130). -/
def execRspStart (f : RspFields) (s : State) : Host.Outcome State Fault Refusal := interpretRaw (f.raw CMD_START) s

/-- RSP_INFO: an 8-byte response with command byte `0x02` is parsed (R71, R80, R130). -/
def execRspInfo (f : RspFields) (s : State) : Host.Outcome State Fault Refusal := interpretRaw (f.raw CMD_INFO) s

/-- RSP_DATA: an 8-byte response with command byte `0x03` is parsed (R71, R80, R130). -/
def execRspData (f : RspFields) (s : State) : Host.Outcome State Fault Refusal := interpretRaw (f.raw CMD_DATA) s

/-- RSP_STOP: an 8-byte response with command byte `0x04` is parsed (R71, R80, R130). -/
def execRspStop (f : RspFields) (s : State) : Host.Outcome State Fault Refusal := interpretRaw (f.raw CMD_STOP) s

end Sys2Proof.Machine
end

