-- ==== Sys2Proof/Machine/Dispatch.lean ====
section
/-! DEFINITION. One arm per request of the block: its meaning, called once. -/

namespace Sys2Proof.Machine

open Sys2Proof

def exec (i : Instr) (s : State) : Host.Outcome State Fault Refusal :=
  match i with
  | .checksum input => Sys2Proof.Machine.execChecksum input s
  | .buildStart => Sys2Proof.Machine.execBuildStart s
  | .buildInfo md => Sys2Proof.Machine.execBuildInfo md s
  | .buildData input chunkLen => Sys2Proof.Machine.execBuildData input chunkLen s
  | .buildStop => Sys2Proof.Machine.execBuildStop s
  | .rspStart f => Sys2Proof.Machine.execRspStart f s
  | .rspInfo f => Sys2Proof.Machine.execRspInfo f s
  | .rspData f => Sys2Proof.Machine.execRspData f s
  | .rspStop f => Sys2Proof.Machine.execRspStop f s
  | .parseResponse raw => Sys2Proof.Machine.execParseResponse raw s

end Sys2Proof.Machine
end

