-- ==== Sys2Proof/Machine/Driver.lean ====
section
/-! DEFINITION. The driver, the Session Controller of spec/43_session_controller.md: the agent that requests the block's
operations. One of its steps makes one request, takes one outcome, or changes its state (DESIGN CHOICE, log 12). -/

namespace Sys2Proof.Machine

open Sys2Proof

/-- Replace the driver's state. -/
def State.withDriver (s : State) (d : Driver) : State := { s with driver := d }

/-- Go on in another session state at another place. -/
def State.goto (s : State) (phase : Phase) (act : Act) : State :=
  s.withDriver { s.driver with phase := phase, act := act }

/-- `Aborted(reason)`: terminal; `offset` stays as it is and nothing more is sent (R159, R161). -/
def State.abort (s : State) (reason : AbortReason) : State := s.goto (.aborted reason) .rest

/-- The free draw of a read with this index (U10, U11, U20; log 13). -/
def freeReadResult (k : Nat) : ReadResult :=
  match Config.freeRead k with
  | some b => .bytes b
  | none => .failed

/-- A read after the listed ones: silence, the next of the cycle, or a free draw (R168, R222; log 13). -/
def Transport.laterRead (t : Transport) : ReadResult × Transport :=
  match t.later with
  | .cycle [] => (.bytes [], t)
  | .cycle (r :: rs) => (r, { t with later := .cycle (rs ++ [r]) })
  | .free => (freeReadResult t.drawn, { t with drawn := t.drawn + 1 })

/-- `readAvailable()`: the next listed result, or else a later one (R151; log 13). -/
def Transport.nextRead (t : Transport) : ReadResult × Transport :=
  match t.reads with
  | [] => t.laterRead
  | r :: rest => (r, { t with reads := rest })

/-- `write(bytes)`: the next listed result; when they are used up, done (R151; log 13). A failed write has sent a first part. -/
def Transport.write (t : Transport) (p : List Byte) : Bool × Transport :=
  match t.writes with
  | [] => (true, { t with sent := t.sent ++ [p] })
  | .done :: rest => (true, { t with sent := t.sent ++ [p], writes := rest })
  | .failed n :: rest => (false, { t with sent := t.sent ++ [p.take n], writes := rest })

/-- The command kind a session state awaits (R153). -/
def Phase.awaited : Phase → Option CommandKind
  | .awaitingStartAck => some .start
  | .awaitingInfoAck => some .info
  | .awaitingDataAck => some .firmwareData
  | .idle => none
  | .sendingData => none
  | .awaitingStopAck => none
  | .completed => none
  | .aborted _ => none

/-- The length of the chunk at the present offset (R153, R157). -/
def Driver.chunkLen (d : Driver) : Nat := chunkLength d.source.size d.offset

/-- The chunk at the present offset: `bytesAt(offset, n)` (R157). -/
def Driver.chunk (d : Driver) : List Byte := d.source.bytesAt d.offset.toNat d.chunkLen

/-- `ErrorCodeLookup(c)`: the reason `ERROR_TABLE` gives a code, if any (R166; log 20). -/
def errorCodeLookup (c : Config) (code : Byte) : Option NackReason := c.errorTable.lookup code

/-- The result of the session, once it has ended (R150, R161, R190). -/
def sessionResult (s : State) : Option SessionResult :=
  match s.driver.phase with
  | .completed => some .completed
  | .aborted (.nack code) => some (.aborted (.nack code) (errorCodeLookup s.config code))
  | .aborted .transportError => some (.aborted .transportError none)
  | .aborted .timeout => some (.aborted .timeout none)
  | .aborted (.unparsed e) => some (.aborted (.unparsed e) none)
  | .idle => none
  | .awaitingStartAck => none
  | .awaitingInfoAck => none
  | .sendingData => none
  | .awaitingDataAck => none
  | .awaitingStopAck => none

/-- The `RAW` bytes a request passes in, if it is a parse. -/
def requestRaw (r : Request) : Option (List Byte) :=
  match decode r with
  | .ok i => rawOperand i
  | .error _ => none

/-- No session runs: the driver takes a standing outcome, or else turns to its next task (R24, R150, R168). A session
starts in `Idle` with nothing acknowledged (R150, R152; log 17). DESIGN CHOICE (log 11): a resting driver does not remember that
a direct request of its was made, so when a reset has abandoned that request (R212) it drops it and turns to its next task; the
spec does not say what it does. -/
def driverRest (s : State) : State :=
  match s.result with
  | some _ => s.takeResult
  | none =>
    match s.driver.tasks with
    | [] => s
    | .request r :: rest =>
      { s.withDriver { s.driver with tasks := rest, heldRaw := (requestRaw r).or s.driver.heldRaw } with
        requests := s.requests ++ [r] }
    | .session source metadata :: rest =>
      s.withDriver
        { phase := .idle, act := .build, offset := 0, source := source, metadata := metadata, retries := 0, waited := 0,
          progress := [], tasks := rest, heldRaw := none }

/-- The driver puts a request to the block and awaits its outcome; the `RAW` bytes of a parse it goes on holding (R183;
log 25). -/
def State.ask (s : State) (i : Instr) (act : Act) : State :=
  (s.present i).withDriver { s.driver with act := act, heldRaw := (rawOperand i).or s.driver.heldRaw }

/-- The driver requests the packet its state sends: START in `Idle` (R154), INFO (R156), the next chunk (R157) unless the
whole image is acknowledged, STOP (R160). In every other state no packet is to be sent. -/
def driverBuild (s : State) : State :=
  match s.driver.phase with
  | .idle => s.ask .buildStart .awaitPacket
  | .awaitingInfoAck => s.ask (.buildInfo s.driver.metadata) .awaitPacket
  | .sendingData =>
    if s.driver.offset = s.driver.source.size then s.goto .awaitingStopAck .build
    else s.ask (.buildData s.driver.chunk (BitVec.ofNat 16 s.driver.chunkLen)) .awaitPacket
  | .awaitingStopAck => s.ask .buildStop .awaitPacket
  | .awaitingStartAck => s
  | .awaitingDataAck => s
  | .completed => s
  | .aborted _ => s

/-- The state after the packet has been written: `Idle → AwaitingStartAck`, `SendingData → AwaitingDataAck`, and
`AwaitingStopAck → Completed` at once, without a read (R154, R156, R157, R160). -/
def Phase.afterWrite : Phase → Phase
  | .idle => .awaitingStartAck
  | .sendingData => .awaitingDataAck
  | .awaitingStopAck => .completed
  | .awaitingStartAck => .awaitingStartAck
  | .awaitingInfoAck => .awaitingInfoAck
  | .awaitingDataAck => .awaitingDataAck
  | .completed => .completed
  | .aborted reason => .aborted reason

/-- After STOP the session is over (R160); after every other packet the driver waits for a response (R155, R163). -/
def Phase.actAfterWrite : Phase → Act
  | .awaitingStopAck => .rest
  | .idle => .listen
  | .awaitingStartAck => .listen
  | .awaitingInfoAck => .listen
  | .sendingData => .listen
  | .awaitingDataAck => .listen
  | .completed => .rest
  | .aborted _ => .rest

/-- The driver writes a packet to the transport and starts to wait, or is done (R151, R160); a failed write aborts (R164). -/
def State.transmit (s : State) (p : List Byte) : State :=
  let w := s.transport.write p
  let s := { s with transport := w.2 }
  if w.1 then
    s.withDriver
      { s.driver with phase := s.driver.phase.afterWrite, act := s.driver.phase.actAfterWrite, waited := 0 }
  else s.abort .transportError

/-- The driver takes the packet it has asked for and transmits it. With no outcome it goes on waiting (R163, R212; log 11). -/
def driverTakePacket (s : State) : Host.Outcome State Fault Refusal :=
  match s.result with
  | none => .next s
  | some (.ok (.packet p)) => .next (s.takeResult.transmit p)
  | some (.ok (.checksum _)) => .fault .unexpectedResult
  | some (.ok (.response _ _)) => .fault .unexpectedResult
  | some (.error _) => .fault .unexpectedResult

/-- The driver reads the transport and requests the parse of what it got, each read on its own (R155); a failed read
aborts (R164). -/
def driverListen (s : State) : State :=
  let r := s.transport.nextRead
  let s := { s with transport := r.2 }
  match r.1 with
  | .bytes b => s.ask (.parseResponse b) .awaitParse
  | .failed => s.abort .transportError

/-- A read that has not ended the wait: round again, for ever in the reference (R155, R222); with `WAIT_BOUND` the wait may
end in `Timeout` (R163; log 14). -/
def driverIgnore (s : State) : State :=
  let reads := s.driver.waited + 1
  let s := s.withDriver { s.driver with act := .listen, waited := reads }
  match s.config.waitBound with
  | none => s
  | some bound => if Config.waitElapsed bound reads then s.abort .timeout else s

/-- A response that does not parse: ignored, or the end of the session, as `ON_MALFORMED` says (R155; log 16). -/
def driverUnparsed (e : ParseError) (s : State) : State :=
  match s.config.onMalformed with
  | .retry => driverIgnore s
  | .abort => s.abort (.unparsed e)

/-- The progress report after an acknowledged chunk, if the driver makes it (R162). -/
def Driver.report (d : Driver) (c : Config) : Driver :=
  if c.reportsProgress then { d with progress := d.progress ++ [(d.offset, d.source.size)] } else d

/-- `(FirmwareData, Ack)`: `offset' = offset + n`; STOP when the whole image is acknowledged, else the next chunk (R158). -/
def driverChunkAcked (s : State) : State :=
  let offset := s.driver.offset + BitVec.ofNat 32 s.driver.chunkLen
  let d := { s.driver with offset := offset, retries := 0 }.report s.config
  if offset = d.source.size then s.withDriver { d with phase := .awaitingStopAck, act := .build }
  else s.withDriver { d with phase := .sendingData, act := .build }

/-- `(FirmwareData, Nack(c))`: the session ends, `offset` as it was; a hardened driver first sends the same chunk again, up
to `RETRY_MAX` times (R159; log 15). -/
def driverChunkRefused (code : Byte) (s : State) : State :=
  if s.driver.retries < s.config.retryMax then
    s.withDriver { s.driver with phase := .sendingData, act := .build, retries := s.driver.retries + 1 }
  else s.abort (.nack code)

/-- The awaited response with `Ack` (R156, R157, R158). -/
def driverAck (s : State) : State :=
  match s.driver.phase with
  | .awaitingStartAck => s.goto .awaitingInfoAck .build
  | .awaitingInfoAck => s.withDriver { s.driver with phase := .sendingData, act := .build, offset := 0 }
  | .awaitingDataAck => driverChunkAcked s
  | .idle => s
  | .sendingData => s
  | .awaitingStopAck => s
  | .completed => s
  | .aborted _ => s

/-- The awaited response with `Nack(c)`: `Aborted(ErrorCodeLookup(c))`, the code kept raw (R156, R157, R159, R166). -/
def driverNack (code : Byte) (s : State) : State :=
  if s.driver.phase = .awaitingDataAck then driverChunkRefused code s else s.abort (.nack code)

/-- The driver takes the outcome of the parse: a response for the awaited command ends the wait, anything else is ignored
(R155). With no outcome it goes on waiting (R163, R212; log 11). -/
def driverTakeParse (s : State) : Host.Outcome State Fault Refusal :=
  match s.result with
  | none => .next s
  | some (.ok (.response kind status)) =>
    if s.driver.phase.awaited = some kind then
      match status with
      | .ack => .next (driverAck s.takeResult)
      | .nack code => .next (driverNack code s.takeResult)
    else .next (driverIgnore s.takeResult)
  | some (.error e) => .next (driverUnparsed e s.takeResult)
  | some (.ok (.checksum _)) => .fault .unexpectedResult
  | some (.ok (.packet _)) => .fault .unexpectedResult

/-- One step of the driver (R150 to R164). -/
def driverStep (s : State) : Host.Outcome State Fault Refusal :=
  match s.driver.act with
  | .rest => .next (driverRest s)
  | .build => .next (driverBuild s)
  | .awaitPacket => driverTakePacket s
  | .listen => .next (driverListen s)
  | .awaitParse => driverTakeParse s

end Sys2Proof.Machine
end

