-- ==== Sys2Proof/Machine/Step.lean ====
section
/-! DEFINITION. One step of the machine. Which agent moves is plain data of the state: a standing reset lands first, then
the block answers a standing request, then the driver moves (spec/20_memory.md R50, spec/70_reset_and_hazards.md R212). -/

namespace Sys2Proof.Machine

open Sys2Proof

/-- The block answers the one request that stands at it (R50). A second request, or one beside an outcome the driver has
not taken, has no meaning (R184, R215; DEDUCED, log 10). -/
def blockStep (r : Request) (rest : List Request) (s : State) : Host.Outcome State Fault Refusal :=
  if rest ≠ [] ∨ s.result.isSome then .refused .overlappingRequest
  else
    match decode r with
    | .ok i => exec i s
    | .error e => .refused (refusalOf e)

/-- One step: a reset, one whole operation of the block (R47: operations are atomic), or one move of the driver. -/
def step (s : State) : Host.Outcome State Fault Refusal :=
  if s.resetPending then .next s.blockReset
  else
    match s.requests with
    | [] => driverStep s
    | r :: rest => blockStep r rest s

/-- `s` with the request whose bits are `w` standing at the block as its only request, so that the very next step runs it
(log 5): nothing else stands before it, neither an outcome not yet taken nor a reset. -/
def State.withFetchWord (s : State) (nbits w : Nat) : State :=
  { s with requests := [tableRequest nbits w], result := none, resetPending := false }

end Sys2Proof.Machine
end

