-- ==== Sys2Proof/Safety.lean ====
section
/-! DEFINITION. The terms in which claims about the machine are stated: what an operation leaves alone, how it completes,
and the invariant of block and driver together. -/

namespace Sys2Proof

/-- The four builder operations (R4, R111 to R114). -/
def Instr.isBuilder : Instr → Bool
  | .buildStart => true
  | .buildInfo _ => true
  | .buildData _ _ => true
  | .buildStop => true
  | .checksum _ => false
  | .rspStart _ => false
  | .rspInfo _ => false
  | .rspData _ => false
  | .rspStop _ => false
  | .parseResponse _ => false

/-- The requests that end in a parse (R130, R80). -/
def Instr.isParse : Instr → Bool
  | .rspStart _ => true
  | .rspInfo _ => true
  | .rspData _ => true
  | .rspStop _ => true
  | .parseResponse _ => true
  | .checksum _ => false
  | .buildStart => false
  | .buildInfo _ => false
  | .buildData _ _ => false
  | .buildStop => false

/-- The payload a builder frames and its command code (R67 to R70, R111 to R114). -/
def Instr.framed : Instr → Option (Byte × List Byte)
  | .buildStart => some (CMD_START, [START_PAYLOAD])
  | .buildInfo md => some (CMD_INFO, infoPayload md)
  | .buildData input chunkLen => some (CMD_DATA, input.take chunkLen.toNat)
  | .buildStop => some (CMD_STOP, [STOP_PAYLOAD])
  | .checksum _ => none
  | .rspStart _ => none
  | .rspInfo _ => none
  | .rspData _ => none
  | .rspStop _ => none
  | .parseResponse _ => none

end Sys2Proof

namespace Sys2Proof.Machine

open Sys2Proof

/-- The frame of an operation (R20, R47, R54, R188): from `s` to `t` the table, `STRICT`, the driver (its image and
metadata among it) and the transport are as they were, the answered request has left and no space survives.
The transient registers may hold anything (U6). -/
def LeavesTheRest (s t : State) : Prop :=
  t.config = s.config ∧ t.tableReady = s.tableReady ∧ t.requests = s.requests.tail ∧
    t.resetPending = s.resetPending ∧ t.spaces = Spaces.absent ∧ t.driver = s.driver ∧ t.transport = s.transport

/-- The request completes in `s` with this outcome, and nothing else changes (R180, R188). -/
def Yields (i : Instr) (s : State) (o : OpOutcome) : Prop :=
  ∃ t, exec i s = .next t ∧ t.result = some o ∧ LeavesTheRest s t

/-- A `PARSE_RESPONSE` has a defined result: in strict mode the table must be initialised (R213). -/
def ParseReady (s : State) : Prop := s.config.strict = true → s.tableReady = true

/-- A command kind's wire code is one of the four (R62). -/
def definedCode (b : Byte) : Prop := b = CMD_START ∨ b = CMD_INFO ∨ b = CMD_DATA ∨ b = CMD_STOP

/-- The bytes decode to a request that keeps the caller's contract (R116, R184). -/
def requestSound (p : Instr → Bool) (r : Request) : Bool :=
  match decode r with
  | .ok i => i.wf && p i
  | .error _ => false

/-- A task the driver may be given: a sound request, or a session whose source serves `size()` bytes (R168, R214). -/
def Task.sound : Task → Bool
  | .request r => requestSound (fun _ => true) r
  | .session source _ => source.wf

/-- An outcome that carries a packet. -/
def OpOutcome.isPacket : OpOutcome → Bool
  | .ok (.packet _) => true
  | .ok (.checksum _) => false
  | .ok (.response _ _) => false
  | .error _ => false

/-- An outcome of a parse. -/
def OpOutcome.isParse : OpOutcome → Bool
  | .ok (.response _ _) => true
  | .error _ => true
  | .ok (.checksum _) => false
  | .ok (.packet _) => false

/-- A status in an outcome is one `AckStatus` allows: a Nack code is 1 to 255 (R21, R72). -/
def OpOutcome.wf : OpOutcome → Bool
  | .ok (.response _ status) => status.wf
  | .ok (.checksum _) => true
  | .ok (.packet _) => true
  | .error _ => true

/-- Which places the driver can be at in each session state (R154 to R161). -/
def Phase.allows : Phase → Act → Bool
  | .idle, a => a == .rest || a == .build || a == .awaitPacket
  | .awaitingStartAck, a => a == .listen || a == .awaitParse
  | .awaitingInfoAck, a => a == .build || a == .awaitPacket || a == .listen || a == .awaitParse
  | .sendingData, a => a == .build || a == .awaitPacket
  | .awaitingDataAck, a => a == .listen || a == .awaitParse
  | .awaitingStopAck, a => a == .build || a == .awaitPacket
  | .completed, a => a == .rest
  | .aborted _, a => a == .rest

/-- The block is idle: no request stands at it and no outcome waits to be taken (R50, R215). -/
def State.portIdle (s : State) : Prop := s.requests = [] ∧ s.result = none

/-- One request stands at the block, it is sound and of the kind asked for. -/
def State.portBusy (s : State) (p : Instr → Bool) : Prop :=
  ∃ r, s.requests = [r] ∧ s.result = none ∧ requestSound p r = true

/-- The operation is over and its outcome, of the kind asked for, waits to be taken. -/
def State.portDone (s : State) (p : OpOutcome → Bool) : Prop := ∃ o, s.requests = [] ∧ s.result = some o ∧ p o = true

/-- What stands at the block fits the driver's place (R163, R215). After a reset the block may be idle anywhere (R212). -/
def State.portFits (s : State) : Prop :=
  match s.driver.act with
  | .rest => s.portIdle ∨ s.portBusy (fun _ => true) ∨ s.portDone (fun _ => true)
  | .build => s.portIdle
  | .listen => s.portIdle
  | .awaitPacket => s.portIdle ∨ s.portBusy Instr.isBuilder ∨ s.portDone OpOutcome.isPacket
  | .awaitParse => s.portIdle ∨ s.portBusy Instr.isParse ∨ s.portDone OpOutcome.isParse

/-- How far the image is acknowledged in each session state (R152, R157, R158, R161). -/
def Driver.offsetFits (d : Driver) : Prop :=
  d.offset.toNat ≤ d.source.size.toNat ∧
    ((d.phase = .awaitingDataAck ∨ (d.phase = .sendingData ∧ d.act = .awaitPacket)) →
      d.offset.toNat < d.source.size.toNat) ∧
    ((d.phase = .awaitingStopAck ∨ d.phase = .completed) → d.offset = d.source.size)

/-- The invariant of block and driver: no operand space outlives an operation, the table is valid, the driver is where its
session state allows it, what stands at the block fits, the offset counts acknowledged bytes, a Nack code is never zero
(R21, R166), nothing the driver has been given breaks a contract, and a driver that awaits a parse holds the bytes that parse
is of (R183). -/
structure State.Inv (s : State) : Prop where
  spaces    : s.spaces = Spaces.absent
  table     : s.tableReady = true
  place     : s.driver.phase.allows s.driver.act = true
  port      : s.portFits
  outcome   : ∀ o, s.result = some o → o.wf = true
  offset    : s.driver.offsetFits
  reason    : ∀ code, s.driver.phase = .aborted (.nack code) → code ≠ STATUS_ACK
  source    : s.driver.source.wf = true
  retries   : s.driver.retries ≤ s.config.retryMax
  progress  : ∀ p ∈ s.driver.progress, p.2 = s.driver.source.size ∧ p.1.toNat ≤ p.2.toNat ∧ 0 < p.2.toNat
  tasks     : ∀ k ∈ s.driver.tasks, k.sound = true
  held      : s.driver.act = .awaitParse → ∃ raw, s.driver.heldRaw = some raw ∧
    (∀ r, s.requests = [r] → requestRaw r = some raw) ∧ ∀ o, s.result = some o → Yields (.parseResponse raw) s o

/-- `n` steps of the machine. -/
def runs (n : Nat) (s : State) : Host.Outcome State Fault Refusal := Sys2Proof.core.run n s

/-- Number of DATA packets an image of `S` bytes takes, `ceil(S / 128)` (R165). -/
def chunkCount (size : Nat) : Nat := (size + DATA_MAX - 1) / DATA_MAX

/-- The DATA packets of an image in the order sent: chunk `j` is bytes `128 j` up to `128 (j + 1)` or the end (R157, R165). -/
def dataPackets (t : CrcTable) (image : List Byte) : List (List Byte) :=
  (List.range (chunkCount image.length)).map fun j =>
    frame t CMD_DATA ((image.drop (DATA_MAX * j)).take DATA_MAX)

/-- A device that answers START, INFO and `k` DATA packets with Ack, one whole response per read (R165, R167). -/
def ackReads (t : CrcTable) (k : Nat) : List ReadResult :=
  [.bytes (frame t CMD_START [STATUS_ACK]), .bytes (frame t CMD_INFO [STATUS_ACK])] ++
    List.replicate k (.bytes (frame t CMD_DATA [STATUS_ACK]))

/-- Nothing stands at the block, no reset is pending and the table is valid: the driver is to move. -/
def State.quiet (s : State) : Prop :=
  s.resetPending = false ∧ s.requests = [] ∧ s.result = none ∧ s.tableReady = true

/-- The outcome `o` waits to be taken, no reset is pending and the table is valid: the driver is to move. -/
def State.answered (s : State) (o : OpOutcome) : Prop :=
  s.resetPending = false ∧ s.requests = [] ∧ s.result = some o ∧ s.tableReady = true

/-- The driver's next write succeeds: its draw is done, or no draw is left (R151, U20; log 13). -/
def State.writeSucceeds (s : State) : Prop := s.transport.writes = [] ∨ ∃ rest, s.transport.writes = .done :: rest

/-- A read does not end the wait the driver is in: it is no failure, and its bytes do not parse as a response for the awaited
command (R155). An empty read is one of these (R131). -/
def State.unmovedBy (s : State) (r : ReadResult) : Prop :=
  ∃ b, r = .bytes b ∧ ∀ k status t, s.driver.phase.awaited = some k → exec (.parseResponse b) s = .next t →
    t.result ≠ some (.ok (.response k status))

/-- Everything the transport is ever to return, listed or later, is such a read: the device stays silent or keeps sending
something else (R222). -/
def State.deviceUnhelpful (s : State) : Prop :=
  (∀ r ∈ s.transport.reads, s.unmovedBy r) ∧
    match s.transport.later with
    | .cycle rs => ∀ r ∈ rs, s.unmovedBy r
    | .free => ∀ k, s.transport.drawn ≤ k → s.unmovedBy (freeReadResult k)

/-- The session goes on in this state at this place; offset, image, metadata, counters and tasks are as they were. -/
def Driver.moved (d : Driver) (phase : Phase) (act : Act) : Driver := { d with phase := phase, act := act }

/-- The reference's accumulator as the source words it: a number shifted left without masking, the table index masked to
eight bits (R92). -/
def unboundedStep (entry : Byte → Nat) (u : Nat) (b : Byte) : Nat :=
  (u <<< 8) ^^^ entry (BitVec.ofNat 8 ((u >>> 8) ^^^ b.toNat))

/-- The reference's result before its final mask (R92). -/
def unboundedChecksum (entry : Byte → Nat) (s : List Byte) : Nat := s.foldl (unboundedStep entry) CRC_SEED.toNat

end Sys2Proof.Machine
end

