-- ==== Sys2Proof/Certificates/Slice0/Obligations.lean ====
section
/-! DEFINITION. The statements about the machine. Each docstring names the rule of spec/ it formalises, or what of the model
it rests on. -/

open Sys2Proof Sys2Proof.Machine

/-! ### Requests and their encodings -/

/-- Whatever request stands alone at the block and decodes to `i`, the step is `exec i` (R47, R50). -/
def Obligations.StepRunsTheDecodedRequest : Prop :=
  ∀ (s : State) (r : Request) (i : Instr),
    s.resetPending = false → s.requests = [r] → s.result = none → decode r = .ok i → step s = exec i s

/-- A table word placed at the block is run by the very next step. The placing is the model's (log 5). -/
def Obligations.FetchWordIsRunNext : Prop :=
  ∀ (s : State) (nbits w : Nat) (i : Instr),
    decodeTableWord nbits w = some i → step (s.withFetchWord nbits w) = exec i (s.withFetchWord nbits w)

/-- Words whose bytes are those of R67 to R71 and R75, read as the model reads requests, decode to what they stand for. The
operand bytes after `OPSEL` are the model's layout (log 1, DESIGN CHOICE); that a command packet stands for its builder's
request is the model's (log 2, DESIGN CHOICE), and so is that a response row is a request (log 3, DEDUCED). -/
def Obligations.SpecWordsDecode : Prop :=
  decode ⟨.operation, [0x00, 0x31, 0x32]⟩ = .ok (.checksum [0x31, 0x32]) ∧
    decode ⟨.operation, [0x03, 0x01, 0x00, 0xAA, 0xBB]⟩ = .ok (.buildData [0xAA, 0xBB] 1) ∧
    decode ⟨.operation, [0x05, 0x2A]⟩ = .ok (.parseResponse [0x2A]) ∧
    decode ⟨.operation, [0x06]⟩ = .error (.reservedOpsel 0x06) ∧
    decode ⟨.commandPacket, [0x2A, 0x01, 0x01, 0x00, 0x01, 0x65, 0xD5, 0x23]⟩ = .ok .buildStart ∧
    decode ⟨.commandPacket,
        [0x2A, 0x02, 0x09, 0x00, 0x78, 0x56, 0x34, 0x12, 0xAB, 0xEF, 0xBE, 0xFE, 0xCA, 0x79, 0x03, 0x23]⟩ =
      .ok (.buildInfo ⟨0x12345678, 0xAB, 0xBEEF, 0xCAFE⟩) ∧
    decode ⟨.commandPacket, [0x2A, 0x03, 0x02, 0x00, 0x2A, 0x23, 0x9A, 0xEF, 0x23]⟩ = .ok (.buildData [0x2A, 0x23] 2) ∧
    decode ⟨.commandPacket, [0x2A, 0x04, 0x01, 0x00, 0x01, 0x20, 0x69, 0x23]⟩ = .ok .buildStop ∧
    decode ⟨.responsePacket, [0x2A, 0x01, 0x01, 0x00, 0x00, 0x44, 0xC5, 0x23]⟩ =
      .ok (.rspStart ⟨0x2A, 0x01, 0x00, 0x00, 0x44, 0xC5, 0x23⟩) ∧
    decode ⟨.responsePacket, [0x2A, 0x04, 0x01, 0x00, 0x02, 0x43, 0x59, 0x23]⟩ =
      .ok (.rspStop ⟨0x2A, 0x01, 0x00, 0x02, 0x43, 0x59, 0x23⟩)

/-- Decoding gives back every request that is encoded, with every operand at every value, well-formed or not
(R75, R76; the operand layout is the model's, log 1). -/
def Obligations.DecodeInvertsEncode : Prop := ∀ i : Instr, decode (encode i) = .ok i

/-- The packet a builder delivers decodes, as a command packet, to that builder with its operands (R77, R80; log 2). -/
def Obligations.BuiltPacketDecodesToItsBuilder : Prop :=
  ∀ (i : Instr) (s : State), i.isBuilder = true → i.wf = true → s.tableReady = true →
    ∃ t p, exec i s = .next t ∧ t.result = some (.ok (.packet p)) ∧ decode ⟨.commandPacket, p⟩ = .ok i.trimmed

/-- Any bytes that come in are a request, and what it does is `PARSE_RESPONSE` of those bytes: the four response rows add
nothing to it (R71, R77, R80; log 3). -/
def Obligations.IncomingBytesAreParsed : Prop :=
  ∀ bytes : List Byte, ∃ i, decode ⟨.responsePacket, bytes⟩ = .ok i ∧ i.isParse = true ∧
    ∀ s, exec i s = exec (.parseResponse bytes) s

/-- R184, R116, R75, R215: the three requests that have no meaning are refused: `BUILD_DATA` outside its contract, whatever the
state, with no truncation, padding or error code; a reserved `OPSEL`; a request beside another or beside an outcome not yet
taken. -/
def Obligations.RequestsWithoutMeaningAreRefused : Prop :=
  (∀ (s : State) (input : List Byte) (n : Half), (128 < n.toNat ∨ input.length < n.toNat) →
    exec (.buildData input n) s = .refused .contractViolation) ∧
  (∀ (s : State) (opsel : Byte) (operands : List Byte), 6 ≤ opsel.toNat → opsel.toNat ≤ 15 →
    s.resetPending = false → s.result = none → s.requests = [⟨.operation, opsel :: operands⟩] →
    step s = .refused .reservedOpsel) ∧
  (∀ (s : State) (r : Request) (rest : List Request), s.resetPending = false → s.requests = r :: rest →
    (rest ≠ [] ∨ s.result ≠ none) → step s = .refused .overlappingRequest)

/-! ### What every operation does and does not do -/

/-- R180: every request that keeps its contract ends in exactly one outcome of the closed set; only a parse can end in an
error, and in `ChecksumMismatch` only with `STRICT = 1`. -/
def Obligations.EveryOperationEndsInOneOutcome : Prop :=
  ∀ (i : Instr) (s : State), i.wf = true → s.tableReady = true →
    ∃ o, Yields i s o ∧ (i.isParse = false → o.code = 0) ∧ (o.code = 1 → i.isParse = true) ∧
      (o.code = 2 → i.isParse = true ∧ s.config.strict = true) ∧ o.code ≤ 2 ∧ (o.code = 0 ↔ ∃ v, o = .ok v)

/-- R20: the result of every operation is a function of its operands, of `CRC_TABLE` and of `STRICT` only, whatever ran
before: whatever the registers, the driver, the transport and an earlier outcome hold. -/
def Obligations.ResultDependsOnOperandsTableAndStrict : Prop :=
  ∀ (i : Instr) (s s' : State), s.config.crcTable = s'.config.crcTable → s.config.strict = s'.config.strict →
    s.tableReady = s'.tableReady →
    (∀ t, exec i s = .next t → ∃ t', exec i s' = .next t' ∧ t'.result = t.result) ∧
      (∀ r, exec i s = .refused r → exec i s' = .refused r)

/-- The frame of all ten requests: table, `STRICT`, driver, image and transport as they were, the answered request gone, no
operand or result space left (R47, R54, R188). -/
def Obligations.OperationsLeaveTheRest : Prop :=
  ∀ (i : Instr) (s t : State), exec i s = .next t → LeavesTheRest s t ∧ ∃ o, t.result = some o

/-- No step of block, driver or reset writes `CRC_TABLE` (R54), `STRICT` (R25) or any other parameter of R8; that the parameters
are one record of State is the model's (log 8). -/
def Obligations.StepsNeverWriteTheTable : Prop :=
  ∀ s t : State, step s = .next t → t.config = s.config

/-- R213 (a), U5: before the table is initialised `CHECKSUM`, `BUILD_*` and strict `PARSE_RESPONSE` have no result; a
lenient `PARSE_RESPONSE` reads no table and completes. -/
def Obligations.NoChecksumBeforeTheTableIsValid : Prop :=
  ∀ (i : Instr) (s : State), s.tableReady = false → i.wf = true →
    ((i.isParse = false ∨ s.config.strict = true) → exec i s = .refused .tableNotInitialised) ∧
      (i.isParse = true → s.config.strict = false → ∃ o, Yields i s o)

/-- R212: a reset abandons the operation in progress; no outcome is delivered; driver, transport and parameters are not
touched. That a reset is a pending bit of the state is the model's (log 11). -/
def Obligations.ResetAbandonsTheOperation : Prop :=
  ∀ s : State, s.resetPending = true →
    ∃ t, step s = .next t ∧ t.requests = [] ∧ t.result = none ∧ t.spaces = Spaces.absent ∧ t.tableReady = true ∧
      t.resetPending = false ∧ t.driver = s.driver ∧ t.transport = s.transport ∧ t.config = s.config

/-! ### The Checksum Engine -/

/-- R90: `CHECKSUM(IN)` of any bytes is the fold of the step of R91 from `0xFFFF`, written out here; it cannot fail. -/
def Obligations.ChecksumFoldsTheStep : Prop :=
  ∀ (s : State) (input : List Byte), s.tableReady = true →
    Yields (.checksum input) s
      (.ok (.checksum (input.foldl
        (fun crc b =>
          ((crc.extractLsb' 0 8).setWidth 16 <<< 8) ^^^ s.config.crcTable.get (crc.extractLsb' 8 8 ^^^ b).toFin)
        0xFFFF#16)))

/-- R92: the reference's unbounded accumulator, masked once at the end, gives the block's result, for every table and every
operand; the block's entry is the low 16 bits of the reference's. -/
def Obligations.MaskingOnceAtTheEndIsTheSame : Prop :=
  ∀ (entry : Byte → Nat) (s : State), s.tableReady = true →
    (∀ i : Byte, tableRead s.config.crcTable i = BitVec.ofNat 16 (entry i)) → ∀ input : List Byte,
      Yields (.checksum input) s (.ok (.checksum (BitVec.ofNat 16 (unboundedChecksum entry input))))

/-- R96 (a), (b), for every table: one byte; extension by one byte. -/
def Obligations.ChecksumOfOneByteAndExtension : Prop :=
  (∀ (s : State) (b : Byte), s.tableReady = true →
    Yields (.checksum [b]) s (.ok (.checksum (0xFF00#16 ^^^ tableRead s.config.crcTable (0xFF#8 ^^^ b))))) ∧
  (∀ (s t : State) (input : List Byte) (b : Byte) (c : Half), s.tableReady = true →
    exec (.checksum input) s = .next t → t.result = some (.ok (.checksum c)) →
    Yields (.checksum (input ++ [b])) s (.ok (.checksum (crcStep s.config.crcTable c b))))

/-! ### The Packet Framer -/

/-- R67 and R70: START and STOP, eight bytes each, no field varies. -/
def Obligations.StartAndStopPackets : Prop :=
  ∀ s : State, s.tableReady = true →
    Yields .buildStart s
      (.ok (.packet ([0x2A, 0x01, 0x01, 0x00, 0x01] ++ le16 (checksum s.config.crcTable [0x01, 0x01, 0x00, 0x01]) ++
        [0x23]))) ∧
    Yields .buildStop s
      (.ok (.packet ([0x2A, 0x04, 0x01, 0x00, 0x01] ++ le16 (checksum s.config.crcTable [0x04, 0x01, 0x00, 0x01]) ++
        [0x23])))

/-- R68: INFO, sixteen bytes, every field of the metadata low byte first, the checksum over offsets 1 to 12. -/
def Obligations.InfoPacket : Prop :=
  ∀ (s : State) (md : FirmwareMetadata), s.tableReady = true →
    let body : List Byte :=
      [0x02, 0x09, 0x00, md.size.extractLsb' 0 8, md.size.extractLsb' 8 8, md.size.extractLsb' 16 8,
        md.size.extractLsb' 24 8, md.type, md.crc.extractLsb' 0 8, md.crc.extractLsb' 8 8,
        md.version.extractLsb' 0 8, md.version.extractLsb' 8 8]
    Yields (.buildInfo md) s (.ok (.packet ([0x2A] ++ body ++ le16 (checksum s.config.crcTable body) ++ [0x23])))

/-- R69: DATA, `7 + n` bytes for `0 ≤ n ≤ 128`: exactly the first `n` bytes of the chunk, unchanged and in order, LENGTH_LOW
`n`, LENGTH_HIGH `0x00`. -/
def Obligations.DataPacket : Prop :=
  ∀ (s : State) (input : List Byte) (n : Half), s.tableReady = true → n.toNat ≤ 128 → n.toNat ≤ input.length →
    let body : List Byte := [0x03, BitVec.ofNat 8 n.toNat, 0x00] ++ input.take n.toNat
    let packet := [0x2A] ++ body ++ le16 (checksum s.config.crcTable body) ++ [0x23]
    Yields (.buildData input n) s (.ok (.packet packet)) ∧ packet.length = 7 + n.toNat

/-- R115: the invariants of every packet a builder returns, with payload of length `L`; its length is 7 to 135 (R9). -/
def Obligations.BuiltPacketInvariants : Prop :=
  ∀ (i : Instr) (s : State) (cmd : Byte) (payload : List Byte), i.wf = true → s.tableReady = true →
    i.framed = some (cmd, payload) →
    ∃ t p, exec i s = .next t ∧ t.result = some (.ok (.packet p)) ∧ LeavesTheRest s t ∧
      p.length = 7 + payload.length ∧ p.length ≤ 135 ∧ p[0]? = some 0x2A ∧ p[1]? = some cmd ∧
      (∃ l h, p[2]? = some l ∧ p[3]? = some h ∧ (fromLe16 l h).toNat = payload.length) ∧
      slice p 4 (4 + payload.length) = payload ∧
      (∃ l h, p[4 + payload.length]? = some l ∧ p[5 + payload.length]? = some h ∧
        fromLe16 l h = checksum s.config.crcTable (slice p 1 (4 + payload.length))) ∧
      p[6 + payload.length]? = some 0x23

/-- R110, R27, R28: framing byte by byte, as the block does it, fills `OUT` with `frame(cmd, payload)`; at its end `cmd` and
`plen` hold what was framed, `crc` the checksum of the slice, and `pos` counts the bytes of `OUT` without wrapping (R23);
`IN`, `RAW`, the interpreter's registers and everything outside registers and spaces are untouched. -/
def Obligations.FramingByteByByteFillsOut : Prop :=
  ∀ (s : State) (cmd : Byte) (payload : List Byte), payload.length ≤ 128 →
    let t := s.emitFrame cmd payload
    let slice : List Byte := [cmd, BitVec.ofNat 8 payload.length, 0x00] ++ payload
    t.spaces.out = some ([0x2A] ++ slice ++ le16 (checksum s.config.crcTable slice) ++ [0x23]) ∧
      t.regs.cmd = cmd ∧ t.regs.plen.toNat = payload.length ∧ t.regs.crc = checksum s.config.crcTable slice ∧
      t.regs.pos.toNat = 7 + payload.length ∧
      t = { s with
        regs := { s.regs with cmd := t.regs.cmd, plen := t.regs.plen, crc := t.regs.crc, pos := t.regs.pos }
        spaces := { s.spaces with out := t.spaces.out } }

/-! ### The Response Interpreter -/

/-- R131: fewer than eight bytes are `Malformed` in both modes. -/
def Obligations.ShortResponseIsMalformed : Prop :=
  ∀ (s : State) (raw : List Byte), ParseReady s → raw.length < 8 → Yields (.parseResponse raw) s (.error .malformed)

/-- R132: in lenient mode the bytes at offsets 1 and 4 alone decide; what stands elsewhere is accepted. -/
def Obligations.LenientReadsTwoBytes : Prop :=
  ∀ (s : State) (b0 b1 b2 b3 b4 b5 b6 b7 : Byte) (rest : List Byte), s.config.strict = false →
    let raw := b0 :: b1 :: b2 :: b3 :: b4 :: b5 :: b6 :: b7 :: rest
    (∀ k : CommandKind, b1 = k.code →
      Yields (.parseResponse raw) s (.ok (.response k (if b4 = 0x00 then .ack else .nack b4)))) ∧
    (¬ definedCode b1 → Yields (.parseResponse raw) s (.error .malformed))

/-- R133, R134, R187: in strict mode the three framing checks come first, then the command code, then the checksum, and only
when all pass the result is `Ok`. -/
def Obligations.StrictChecksInOrder : Prop :=
  ∀ (s : State) (b0 b1 b2 b3 b4 b5 b6 b7 : Byte) (rest : List Byte), s.config.strict = true → s.tableReady = true →
    let raw := b0 :: b1 :: b2 :: b3 :: b4 :: b5 :: b6 :: b7 :: rest
    let framed := b0 = 0x2A ∧ (b2 = 0x01 ∧ b3 = 0x00) ∧ b7 = 0x23
    let agrees := fromLe16 b5 b6 = checksum s.config.crcTable [b1, b2, b3, b4]
    (¬ framed → Yields (.parseResponse raw) s (.error .malformed)) ∧
    (framed → ¬ definedCode b1 → Yields (.parseResponse raw) s (.error .malformed)) ∧
    (framed → definedCode b1 → ¬ agrees → Yields (.parseResponse raw) s (.error .checksumMismatch)) ∧
    (∀ k : CommandKind, framed → b1 = k.code → agrees →
      Yields (.parseResponse raw) s (.ok (.response k (if b4 = 0x00 then .ack else .nack b4))))

/-- R136: whenever a parse succeeds, in either mode, the status is `Ack` for `0x00` at offset 4 and `Nack` of that very byte
otherwise; no table is looked up. -/
def Obligations.StatusByteIsTheNackCode : Prop :=
  ∀ (s t : State) (raw : List Byte) (v : Byte) (k : CommandKind) (st : AckStatus), raw[4]? = some v →
    exec (.parseResponse raw) s = .next t → t.result = some (.ok (.response k st)) →
    st = (if v = 0x00 then .ack else .nack v) ∧ st.wf = true

/-- R137: the bytes from offset 8 on are ignored, in both modes. -/
def Obligations.SurplusBytesAreIgnored : Prop :=
  ∀ (s : State) (raw extra : List Byte), 8 ≤ raw.length →
    exec (.parseResponse (raw ++ extra)) s = exec (.parseResponse raw) s

/-- R138: building a response-shaped packet and parsing it yields that command and status, in both modes. -/
def Obligations.ResponseRoundTrip : Prop :=
  ∀ (s : State) (k : CommandKind) (ss : Byte), ParseReady s →
    Yields (.parseResponse (frame s.config.crcTable k.code [ss])) s
      (.ok (.response k (if ss = 0x00 then .ack else .nack ss)))

/-- R73: a command byte that is not `0x01` to `0x04` is `Malformed` in both modes, and no builder makes such a packet. -/
def Obligations.UndefinedCommandCodes : Prop :=
  (∀ (s : State) (raw : List Byte) (b : Byte), ParseReady s → raw[1]? = some b → ¬ definedCode b →
    Yields (.parseResponse raw) s (.error .malformed)) ∧
  (∀ (i : Instr) (s t : State) (p : List Byte), exec i s = .next t → t.result = some (.ok (.packet p)) →
    ∃ b, p[1]? = some b ∧ definedCode b)

/-- R181, R182: the causes of `Malformed` and of `ChecksumMismatch`, all of them. -/
def Obligations.CausesOfTheErrorOutcomes : Prop :=
  ∀ (s : State) (raw : List Byte), ParseReady s →
    let short := raw.length < 8
    let undefinedCode := ∃ b, raw[1]? = some b ∧ ¬ definedCode b
    let unframed := raw[0]? ≠ some 0x2A ∨ raw[2]? ≠ some 0x01 ∨ raw[3]? ≠ some 0x00 ∨ raw[7]? ≠ some 0x23
    let broken := short ∨ undefinedCode ∨ (s.config.strict = true ∧ unframed)
    let differs := ∃ l h, raw[5]? = some l ∧ raw[6]? = some h ∧
      fromLe16 l h ≠ checksum s.config.crcTable (slice raw 1 5)
    ∃ o, Yields (.parseResponse raw) s o ∧ (o = .error .malformed ↔ broken) ∧
      (o = .error .checksumMismatch ↔ ¬ broken ∧ s.config.strict = true ∧ differs)

/-- The four response rows complete with the result their row gives: lenient mode, and strict mode when the row's pattern and
the checksum hold; otherwise strict mode reports the error. That the rows are requests of their own is the model's (log 3). -/
def Obligations.ResponseRowsComplete : Prop :=
  ∀ (s : State) (f : RspFields), ParseReady s →
    let status : AckStatus := if f.status = 0x00 then .ack else .nack f.status
    let framed := f.startMark = 0x2A ∧ (f.lenLow = 0x01 ∧ f.lenHigh = 0x00) ∧ f.endMark = 0x23
    let agrees := fun c : Byte =>
      fromLe16 f.crcLow f.crcHigh = checksum s.config.crcTable [c, f.lenLow, f.lenHigh, f.status]
    let row := fun (i : Instr) (c : Byte) (k : CommandKind) =>
      (s.config.strict = false ∨ (framed ∧ agrees c) → Yields i s (.ok (.response k status))) ∧
      (s.config.strict = true → ¬ framed → Yields i s (.error .malformed)) ∧
      (s.config.strict = true → framed → ¬ agrees c → Yields i s (.error .checksumMismatch))
    row (.rspStart f) 0x01 .start ∧ row (.rspInfo f) 0x02 .info ∧ row (.rspData f) 0x03 .firmwareData ∧
      row (.rspStop f) 0x04 .stop

/-! ### The driver, transition by transition -/

/-- R154: in `Idle` the driver requests `BUILD_START()`, writes the eight bytes and, the write succeeding, awaits the Start
response. The count of three steps is the model's (log 12), and so is what makes a write succeed (log 13). -/
def Obligations.SessionStartsWithStart : Prop :=
  ∀ s : State, s.quiet → s.driver.phase = .idle → s.driver.act = .build → s.writeSucceeds →
    ∃ t, runs 3 s = .next t ∧ t.quiet ∧ t.config = s.config ∧
      t.driver = { s.driver.moved .awaitingStartAck .listen with waited := 0 } ∧
      t.transport =
        { s.transport with
          writes := s.transport.writes.tail
          sent := s.transport.sent ++
            [[0x2A, 0x01, 0x01, 0x00, 0x01] ++ le16 (checksum s.config.crcTable [0x01, 0x01, 0x00, 0x01]) ++ [0x23]] }

/-- R155, the read: whatever the transport returns, nothing included, is handed to `PARSE_RESPONSE` on its own. What it returns
is a listed result, and after those silence, a cycle without end, or a free draw, which may be a failure (log 13). The driver goes
on holding the bytes (R183; log 25). -/
def Obligations.EveryReadIsParsedOnItsOwn : Prop :=
  ∀ s : State, s.quiet → s.driver.act = .listen →
    (∀ (b : List Byte) (rest : List ReadResult), s.transport.reads = .bytes b :: rest →
      step s = .next { s with
        requests := [encode (.parseResponse b)]
        driver := { s.driver with act := .awaitParse, heldRaw := some b }
        transport := { s.transport with reads := rest } }) ∧
    (s.transport.reads = [] → s.transport.later = .cycle [] →
      step s = .next { s with
        requests := [encode (.parseResponse [])]
        driver := { s.driver with act := .awaitParse, heldRaw := some [] } }) ∧
    (∀ (b : List Byte) (rs : List ReadResult), s.transport.reads = [] → s.transport.later = .cycle (.bytes b :: rs) →
      step s = .next { s with
        requests := [encode (.parseResponse b)]
        driver := { s.driver with act := .awaitParse, heldRaw := some b }
        transport := { s.transport with later := .cycle (rs ++ [.bytes b]) } }) ∧
    (s.transport.reads = [] → s.transport.later = .free →
      ∃ t, step s = .next t ∧ t.transport = { s.transport with drawn := s.transport.drawn + 1 } ∧
        match Config.freeRead s.transport.drawn with
        | some b => t.requests = [encode (.parseResponse b)] ∧
          t.driver = { s.driver with act := .awaitParse, heldRaw := some b }
        | none => t.requests = [] ∧ t.driver = s.driver.moved (.aborted .transportError) .rest)

/-- R155, what is ignored: with `ON_MALFORMED = retry` and no bound, a response that does not parse or answers another command
leaves the session as it is and the driver reads again; with `ON_MALFORMED = abort` one that does not parse ends it, whether
or not the wait is bounded. That the reason recorded is the parse error is the model's (log 16). -/
def Obligations.UnawaitedResponsesAreIgnored : Prop :=
  ∀ (s : State) (o : OpOutcome), s.answered o → s.driver.act = .awaitParse →
    (s.config.waitBound = none → ((∃ e, o = .error e) ∧ s.config.onMalformed = .retry ∨
        (∃ k st, o = .ok (.response k st) ∧ s.driver.phase.awaited ≠ some k)) →
      ∃ t, step s = .next t ∧ t.quiet ∧ t.config = s.config ∧ t.transport = s.transport ∧
        t.driver = { s.driver with act := .listen, waited := s.driver.waited + 1 }) ∧
    (∀ e, o = .error e → s.config.onMalformed = .abort →
      ∃ t, step s = .next t ∧ t.quiet ∧ t.config = s.config ∧ t.transport = s.transport ∧
        t.driver = s.driver.moved (.aborted (.unparsed e)) .rest)

/-- R156: `(Start, Ack)`, the write succeeding, sends INFO of the session's metadata; `(Start, Nack(c))` ends the session, the
code kept raw. The count of four steps is the model's (log 12), and so is what makes a write succeed (log 13). -/
def Obligations.StartAcknowledged : Prop :=
  ∀ s : State, s.driver.phase = .awaitingStartAck → s.driver.act = .awaitParse →
    (s.answered (.ok (.response .start .ack)) → s.writeSucceeds →
      ∃ t, runs 4 s = .next t ∧ t.quiet ∧ t.config = s.config ∧
        t.driver = { s.driver.moved .awaitingInfoAck .listen with waited := 0 } ∧
        t.transport = { s.transport with
          writes := s.transport.writes.tail
          sent := s.transport.sent ++
            [frame s.config.crcTable 0x02
              (le32 s.driver.metadata.size ++ [s.driver.metadata.type] ++ le16 s.driver.metadata.crc ++
                le16 s.driver.metadata.version)] }) ∧
    (∀ c, s.answered (.ok (.response .start (.nack c))) →
      ∃ t, step s = .next t ∧ t.quiet ∧ t.transport = s.transport ∧
        t.driver = s.driver.moved (.aborted (.nack c)) .rest)

/-- R157: `(Info, Ack)` goes to `SendingData(0)`, `(Info, Nack(c))` ends the session; in `SendingData` with the whole image
acknowledged the driver goes to `AwaitingStopAck` without a packet, otherwise it sends the next `min(128, total - offset)`
bytes, at least one, and, the write succeeding, awaits their acknowledgement. The reason after `(Info, Nack(c))` is the spec's
own inference in R157 (N18); the count of three steps is the model's (log 12), and so is what makes a write succeed
(log 13). -/
def Obligations.InfoAcknowledgedAndChunkSent : Prop :=
  (∀ s : State, s.driver.phase = .awaitingInfoAck → s.driver.act = .awaitParse →
    (s.answered (.ok (.response .info .ack)) →
      ∃ t, step s = .next t ∧ t.quiet ∧ t.transport = s.transport ∧
        t.driver = { s.driver.moved .sendingData .build with offset := 0 }) ∧
    (∀ c, s.answered (.ok (.response .info (.nack c))) →
      ∃ t, step s = .next t ∧ t.quiet ∧ t.transport = s.transport ∧
        t.driver = s.driver.moved (.aborted (.nack c)) .rest)) ∧
  (∀ s : State, s.quiet → s.driver.phase = .sendingData → s.driver.act = .build →
    (s.driver.offset = s.driver.source.size →
      ∃ t, step s = .next t ∧ t.quiet ∧ t.transport = s.transport ∧ t.driver = s.driver.moved .awaitingStopAck .build) ∧
    (s.driver.offset.toNat < s.driver.source.size.toNat → s.driver.source.wf = true → s.writeSucceeds →
      let n := min 128 (s.driver.source.size.toNat - s.driver.offset.toNat)
      let chunk := (s.driver.source.bytes.drop s.driver.offset.toNat).take n
      1 ≤ n ∧ chunk.length = n ∧
      ∃ t, runs 3 s = .next t ∧ t.quiet ∧ t.config = s.config ∧
        t.driver = { s.driver.moved .awaitingDataAck .listen with waited := 0 } ∧
        t.transport =
          { s.transport with
            writes := s.transport.writes.tail
            sent := s.transport.sent ++ [frame s.config.crcTable 0x03 chunk] }))

/-- R158: `(FirmwareData, Ack)` adds the chunk's length to `offset`, without overflow; with the whole image acknowledged STOP
comes next, otherwise the next chunk. That the retries counted so far are forgotten then, so that `RETRY_MAX` bounds the
retries of each chunk, is the model's choice (log 15). -/
def Obligations.ChunkAcknowledged : Prop :=
  ∀ s : State, s.driver.phase = .awaitingDataAck → s.driver.act = .awaitParse →
    s.answered (.ok (.response .firmwareData .ack)) → s.driver.offset.toNat < s.driver.source.size.toNat →
    let n := min 128 (s.driver.source.size.toNat - s.driver.offset.toNat)
    ∃ t, step s = .next t ∧ t.quiet ∧ t.transport = s.transport ∧ t.config = s.config ∧
      t.driver.offset.toNat = s.driver.offset.toNat + n ∧ t.driver.offset.toNat ≤ s.driver.source.size.toNat ∧
      t.driver.act = .build ∧
      t.driver.phase = (if s.driver.offset.toNat + n = s.driver.source.size.toNat then .awaitingStopAck else .sendingData) ∧
      t.driver.source = s.driver.source ∧ t.driver.metadata = s.driver.metadata ∧ t.driver.tasks = s.driver.tasks ∧
      t.driver.retries = 0

/-- R162: after an acknowledged chunk the driver that reports progress reports the new offset and the total, which is not
zero; whether it reports is a parameter of the model (log 18). -/
def Obligations.ProgressIsReportedPerChunk : Prop :=
  ∀ s : State, s.driver.phase = .awaitingDataAck → s.driver.act = .awaitParse →
    s.answered (.ok (.response .firmwareData .ack)) → s.driver.offset.toNat < s.driver.source.size.toNat →
    ∃ t, step s = .next t ∧ 0 < s.driver.source.size.toNat ∧
      t.driver.progress =
        (if s.config.reportsProgress then s.driver.progress ++ [(t.driver.offset, s.driver.source.size)]
          else s.driver.progress)

/-- R159: `(FirmwareData, Nack(c))` ends the session with `offset` as it was; with retries left the same chunk is sent again,
at most `RETRY_MAX` times. That the count is per chunk is the model's (log 15). -/
def Obligations.ChunkRefused : Prop :=
  ∀ (s : State) (c : Byte), s.driver.phase = .awaitingDataAck → s.driver.act = .awaitParse →
    s.answered (.ok (.response .firmwareData (.nack c))) →
    (s.config.retryMax ≤ s.driver.retries →
      ∃ t, step s = .next t ∧ t.quiet ∧ t.transport = s.transport ∧
        t.driver = s.driver.moved (.aborted (.nack c)) .rest ∧ t.driver.offset = s.driver.offset) ∧
    (s.driver.retries < s.config.retryMax →
      ∃ t, step s = .next t ∧ t.quiet ∧ t.transport = s.transport ∧
        t.driver = { s.driver.moved .sendingData .build with retries := s.driver.retries + 1 })

/-- R160: in `AwaitingStopAck` the driver requests `BUILD_STOP()`, writes it and, the write succeeding, is `Completed` at
once; it does not read. The count of three steps is the model's (log 12), and so is what makes a write succeed (log 13). -/
def Obligations.StopIsNotAwaited : Prop :=
  ∀ s : State, s.quiet → s.driver.phase = .awaitingStopAck → s.driver.act = .build → s.writeSucceeds →
    ∃ t, runs 3 s = .next t ∧ t.quiet ∧ t.driver = { s.driver.moved .completed .rest with waited := 0 } ∧
      t.config = s.config ∧
      t.transport =
        { s.transport with
          writes := s.transport.writes.tail
          sent := s.transport.sent ++
            [[0x2A, 0x04, 0x01, 0x00, 0x01] ++ le16 (checksum s.config.crcTable [0x04, 0x01, 0x00, 0x01]) ++ [0x23]] }

/-- R164: a failed write or read ends the session in `Aborted(TransportError)`; the block is not involved. -/
def Obligations.TransportFailureAborts : Prop :=
  (∀ (s : State) (rest : List ReadResult), s.quiet → s.driver.act = .listen →
    (s.transport.reads = .failed :: rest ∨ s.transport.reads = [] ∧ s.transport.later = .cycle (.failed :: rest)) →
    ∃ t, step s = .next t ∧ t.quiet ∧ t.driver = s.driver.moved (.aborted .transportError) .rest ∧
      t.transport.sent = s.transport.sent) ∧
  (∀ (s : State) (p : List Byte) (k : Nat) (rest : List WriteResult), s.answered (.ok (.packet p)) →
    s.driver.act = .awaitPacket → s.transport.writes = .failed k :: rest →
    ∃ t, step s = .next t ∧ t.quiet ∧ t.driver = s.driver.moved (.aborted .transportError) .rest)

/-- R163, the hardened wait: with a bound, an ignored response leads back to the read or to `Aborted(Timeout)`, nothing else;
which of the two is a free value, since the spec gives the bound no unit (log 14). Without a bound no step gives
`Timeout`. -/
def Obligations.BoundedWaitEndsInTimeout : Prop :=
  (∀ (s : State) (o : OpOutcome) (bound : Nat), s.answered o → s.driver.act = .awaitParse →
    s.config.waitBound = some bound →
    ((∃ e, o = .error e) ∧ s.config.onMalformed = .retry ∨
      (∃ k st, o = .ok (.response k st) ∧ s.driver.phase.awaited ≠ some k)) →
    ∃ t, step s = .next t ∧ t.quiet ∧ t.transport = s.transport ∧
      t.driver =
        { s.driver with
          waited := s.driver.waited + 1
          phase := if Config.waitElapsed bound (s.driver.waited + 1) then .aborted .timeout else s.driver.phase
          act := if Config.waitElapsed bound (s.driver.waited + 1) then .rest else .listen }) ∧
  (∀ s t : State, s.config.waitBound = none → step s = .next t → t.driver.phase = .aborted .timeout →
    s.driver.phase = .aborted .timeout)

/-- R166, R150, R190: the session's result names its reason; a Nack keeps the raw code beside whatever name `ERROR_TABLE`
gives it, and there is a result exactly in the two terminal states. -/
def Obligations.SessionResultKeepsTheRawCode : Prop :=
  ∀ s : State,
    (∀ code, s.driver.phase = .aborted (.nack code) →
      sessionResult s = some (.aborted (.nack code) (s.config.errorTable.lookup code))) ∧
    (∀ reason, (∀ code, reason ≠ .nack code) → s.driver.phase = .aborted reason →
      sessionResult s = some (.aborted reason none)) ∧
    (sessionResult s = some .completed ↔ s.driver.phase = .completed) ∧
    (sessionResult s = none ↔ s.driver.phase ≠ .completed ∧ ∀ reason, s.driver.phase ≠ .aborted reason)

/-! ### Whole-machine rules -/

/-- R163, R155: only an outcome that is a response for the awaited command takes the driver out of a wait to its next packet. -/
def Obligations.OnlyTheAwaitedResponseEndsTheWait : Prop :=
  ∀ s t : State, step s = .next t → (s.driver.act = .listen ∨ s.driver.act = .awaitParse) → t.driver.act = .build →
    ∃ k st, s.driver.act = .awaitParse ∧ s.result = some (.ok (.response k st)) ∧ s.driver.phase.awaited = some k

/-- R160, R161, C6: `Completed` is entered from `AwaitingStopAck` alone, with the whole image acknowledged, and by a write. -/
def Obligations.CompletedMeansEveryByteAcknowledged : Prop :=
  ∀ s t : State, s.Inv → step s = .next t → s.driver.phase ≠ .completed → t.driver.phase = .completed →
    s.driver.phase = .awaitingStopAck ∧ t.driver.offset = t.driver.source.size ∧
      ∃ p, t.transport.sent = s.transport.sent ++ [p] ∧ t.transport.reads = s.transport.reads ∧
        t.transport.later = s.transport.later ∧ t.transport.drawn = s.transport.drawn

/-- R161: in `Completed` and `Aborted` no further packet is sent, however long the machine runs and whatever direct requests
the block answers; only a new session, a task of the driver's caller (log 17), could start from `Idle` again. -/
def Obligations.TerminalStatesSendNothing : Prop :=
  ∀ (n : Nat) (s t : State), s.driver.act = .rest → (s.driver.phase = .completed ∨ ∃ r, s.driver.phase = .aborted r) →
    (∀ k ∈ s.driver.tasks, ∃ r, k = .request r) → runs n s = .next t →
    t.transport = s.transport ∧ t.driver.phase = s.driver.phase ∧ t.driver.offset = s.driver.offset

/-- R222: with a silent device the reference driver waits for ever: after any number of steps the session state is the same
and nothing more has been sent. A silent device is the model's `later = .cycle []` with no read listed (log 13). -/
def Obligations.SilentDeviceWaitsForEver : Prop :=
  ∀ (n : Nat) (s : State), s.quiet → s.driver.act = .listen → s.transport.reads = [] → s.transport.later = .cycle [] →
    s.config.onMalformed = .retry → s.config.waitBound = none →
    ∃ t, runs n s = .next t ∧ t.driver.phase = s.driver.phase ∧ t.driver.offset = s.driver.offset ∧
      t.transport = s.transport

/-- R33, R210: right after reset no operation is in progress, no outcome waits, no space exists, the table is valid, the
parameters hold what the block is configured with and the driver is `Idle`; nothing of the registers is said. By default the
block is lenient (R8, R25), and its table is the default table, which the spec prints from general knowledge (R8, R93; PRESUMED,
log 7). -/
def Obligations.ResetLeavesTheBlockIdle : Prop :=
  (∀ c : Config,
    let s := State.resetWith c
    s.requests = [] ∧ s.result = none ∧ s.spaces = Spaces.absent ∧ s.tableReady = true ∧ s.config = c ∧
      s.driver.phase = .idle) ∧
  State.reset.config.strict = false ∧ State.reset.config.crcTable = defaultCrcTable

/-- The invariant holds right after reset, whatever the block is configured with. -/
def Obligations.ResetMeetsTheInvariant : Prop := ∀ c : Config, (State.resetWith c).Inv

/-- Every step keeps the invariant: spaces do not outlive operations, the table stays valid, `0 ≤ offset ≤ total_size`
(R152), the driver's place and what stands at the block fit together, a Nack code is never zero (R21, R166), retries are
bounded, progress never divides by zero, and a driver that awaits a parse holds the bytes that parse is of (R183; log 25). -/
def Obligations.StepsKeepTheInvariant : Prop := ∀ s t : State, s.Inv → step s = .next t → t.Inv

/-- R157, R168, R216: in no state that meets the invariant does the machine refuse or fault: the driver never asks for a chunk
over 128 bytes or over what it supplies, and never makes an overlapping request. -/
def Obligations.DriverKeepsTheContract : Prop := ∀ s : State, s.Inv → ∃ t, step s = .next t

/-- R165, R167: over an image of `S` bytes answered by Acks only the session completes, in both modes and with any
parameters, after START, INFO, `ceil(S / 128)` DATA packets in order and STOP, with `offset = S` and every response used,
whether the writes are listed as done or not listed. The bound on the steps is the model's (log 12), and so are the lists of
reads and writes (log 13) and the list of tasks (log 17). -/
def Obligations.AllAckSessionCompletes : Prop :=
  ∀ (s : State) (src : FirmwareSource) (md : FirmwareMetadata), s.quiet → s.driver.act = .rest →
    s.driver.tasks = [.session src md] → src.wf = true →
    (∀ w ∈ s.transport.writes, w = .done) → s.transport.reads = ackReads s.config.crcTable (chunkCount src.bytes.length) →
    ∃ n t, n ≤ 17 + 6 * chunkCount src.bytes.length ∧ runs n s = .next t ∧ t.driver.phase = .completed ∧
      t.driver.offset = src.size ∧ t.transport.reads = [] ∧
      t.transport.sent = s.transport.sent ++
        [frame s.config.crcTable CMD_START [START_PAYLOAD], frame s.config.crcTable CMD_INFO (infoPayload md)] ++
        dataPackets s.config.crcTable src.bytes ++ [frame s.config.crcTable CMD_STOP [STOP_PAYLOAD]]

/-! ### The caller's requests, and a device that never answers -/

/-- The driver at rest (R168, R150): it puts the next direct request of its tasks at the block, and the outcome it finds there
later it takes and drops; the next session starts in `Idle` with nothing acknowledged; with no task and no outcome the
machine stays as it is. The list of tasks is the model's (log 17), and so are that resting step (log 5), what becomes of a direct
request that a reset abandons, namely that the driver turns to its next task (log 11), and how long the bytes of a parse are
held (log 25). -/
def Obligations.RestingDriverTakesItsTasks : Prop :=
  ∀ s : State, s.driver.act = .rest →
    (∀ (r : Request) (rest : List Task), s.quiet → s.driver.tasks = .request r :: rest →
      step s = .next { s with
        requests := [r], driver := { s.driver with tasks := rest, heldRaw := (requestRaw r).or s.driver.heldRaw } }) ∧
    (∀ o, s.answered o → step s = .next { s with result := none }) ∧
    (∀ (src : FirmwareSource) (md : FirmwareMetadata) (rest : List Task), s.quiet →
      s.driver.tasks = .session src md :: rest →
      ∃ t, step s = .next t ∧ t.quiet ∧ t.config = s.config ∧ t.transport = s.transport ∧
        t.driver =
          { phase := .idle, act := .build, offset := 0, source := src, metadata := md, retries := 0, waited := 0,
            progress := [], tasks := rest, heldRaw := none }) ∧
    (s.quiet → s.driver.tasks = [] → step s = .next s)

/-- R168: a direct request of the caller that keeps its contract is put at the block, answered with the one outcome it has in
any state of that configuration (R20), and the outcome is taken, in three steps of the model (log 12, log 17); session and
transport are untouched. Of the request the driver goes on holding the `RAW` bytes, if it is a parse (R183; log 25). -/
def Obligations.DirectRequestIsAnsweredAndTaken : Prop :=
  ∀ (s : State) (r : Request) (i : Instr) (rest : List Task), s.quiet → s.driver.act = .rest →
    s.driver.tasks = .request r :: rest → decode r = .ok i → i.wf = true →
    ∃ u o t, runs 2 s = .next u ∧ u.answered o ∧ Yields i s o ∧ step u = .next t ∧ t.quiet ∧
      t.driver = { s.driver with tasks := rest, heldRaw := (requestRaw r).or s.driver.heldRaw } ∧ t.transport = s.transport ∧ t.config = s.config

/-- R222, R155: with a device that stays silent or keeps sending something else, for ever, the reference driver waits for ever:
round after round of read, parse and ignore it is back at the read, in the same session state, one unsuccessful read later,
with nothing more sent and the device as unhelpful as before. Three steps a round are the model's (log 12); the reads without
end are a cycle, or free draws (log 13). -/
def Obligations.UnhelpfulDeviceWaitsForEver : Prop :=
  ∀ (n : Nat) (s : State), s.quiet → s.driver.act = .listen → s.config.onMalformed = .retry → s.config.waitBound = none →
    s.deviceUnhelpful →
    ∃ t, runs (3 * n) s = .next t ∧ t.quiet ∧ t.config = s.config ∧
      t.driver = { s.driver with waited := s.driver.waited + n, heldRaw := t.driver.heldRaw } ∧ t.transport.sent = s.transport.sent ∧
      t.transport.writes = s.transport.writes ∧ t.deviceUnhelpful

/-! ### What a parse loads, and what the driver holds of it -/

/-- R29: what the two loading steps of a parse leave when at least eight bytes are presented: `cnt`, `rcmd` and `rstat` in both
modes, and in strict mode `rlen`, `rcrc` and `crc`; `RAW` holds the bytes, and the other registers, `IN`, `OUT` and the rest are
untouched. Nothing is said here of the checks. -/
def Obligations.ParseLoadsItsRegisters : Prop :=
  ∀ (s : State) (b0 b1 b2 b3 b4 b5 b6 b7 : Byte) (rest : List Byte),
    let raw := b0 :: b1 :: b2 :: b3 :: b4 :: b5 :: b6 :: b7 :: rest
    let both := { s.regs with cnt := raw.length, rcmd := b1, rstat := b4 }
    ∃ command f, rspBytes raw = some (command, f) ∧
      (s.beginParse raw).copyResponse command f =
        { s with
          spaces := { s.spaces with raw := some raw }
          regs :=
            if s.config.strict then { both with rlen := fromLe16 b2 b3, rcrc := fromLe16 b5 b6, crc := CRC_SEED }
            else both }

/-- R183: an outcome of a parse that is no `Ok` is one of the two kinds and nothing more, and the driver still holds the `RAW`
bytes it passed in, when the outcome stands and after it has taken it: of a read in a session, and of a direct request. The steps
are the model's (log 12), and so is how long the driver holds the bytes (log 25). -/
def Obligations.DriverStillHoldsTheRawBytes : Prop :=
  ∀ (s : State) (raw : List Byte), s.quiet →
    ((s.driver.act = .listen ∧ s.transport.nextRead.1 = .bytes raw) ∨
      (s.driver.act = .rest ∧ ∃ r rest, s.driver.tasks = .request r :: rest ∧ requestRaw r = some raw)) →
    ∃ t o u, runs 2 s = .next t ∧ t.answered o ∧ Yields (.parseResponse raw) s o ∧
      (o.code = 0 ∨ o = .error .malformed ∨ o = .error .checksumMismatch) ∧ t.driver.heldRaw = some raw ∧
      step t = .next u ∧ u.driver.heldRaw = some raw
end

