-- ==== Sys2Proof/Laws/Bytes.lean ====
section
/-! SUPPORT. The byte forms of a value give the value back (spec/20_memory.md R43, spec/30_encoding.md R63, R65). -/

namespace Sys2Proof

@[simp] theorem le16_length (v : Half) : (le16 v).length = 2 := rfl

@[simp] theorem le32_length (v : Word) : (le32 v).length = 4 := rfl

@[simp] theorem infoPayload_length (md : FirmwareMetadata) : (infoPayload md).length = INFO_LEN := rfl

@[simp] theorem fromLe16_lo8_hi8 (v : Half) : fromLe16 (lo8 v) (hi8 v) = v := by
  apply BitVec.eq_of_getLsbD_eq
  intro i hi
  by_cases h : i < 8
  · have a : i < 16 := by omega
    simp [fromLe16, lo8, hi8, h, a]
  · have h2 : i - 8 < 8 := by omega
    have h3 : 8 + (i - 8) = i := by omega
    simp [fromLe16, lo8, hi8, h, hi, h2, h3]

@[simp] theorem lo8_fromLe16 (a b : Byte) : lo8 (fromLe16 a b) = a := by
  apply BitVec.eq_of_getLsbD_eq
  intro i hi
  have : i < 16 := by omega
  simp [fromLe16, lo8, hi, this]

@[simp] theorem hi8_fromLe16 (a b : Byte) : hi8 (fromLe16 a b) = b := by
  apply BitVec.eq_of_getLsbD_eq
  intro i hi
  have h1 : 8 + i < 16 := by omega
  simp [fromLe16, hi8, hi, h1]

@[simp] theorem fromLe32_bytes (v : Word) :
    fromLe32 (v.extractLsb' 0 8) (v.extractLsb' 8 8) (v.extractLsb' 16 8) (v.extractLsb' 24 8) = v := by
  apply BitVec.eq_of_getLsbD_eq
  intro i hi
  have cases : i < 8 ∨ (8 ≤ i ∧ i < 16) ∨ (16 ≤ i ∧ i < 24) ∨ 24 ≤ i := by omega
  rcases cases with h | ⟨h, h'⟩ | ⟨h, h'⟩ | h
  · have a : i < 16 := by omega
    have b : i < 24 := by omega
    have c : i < 32 := by omega
    simp [fromLe32, h, a, b, c]
  · have a : ¬ i < 8 := by omega
    have b : i - 8 < 8 := by omega
    have c : 8 + (i - 8) = i := by omega
    have d : i < 24 := by omega
    simp [fromLe32, a, b, c, d, h', hi]
  · have a : ¬ i < 8 := by omega
    have b : ¬ i - 8 < 8 := by omega
    have c : ¬ i < 16 := by omega
    have d : i - 16 < 8 := by omega
    have e : 16 + (i - 16) = i := by omega
    simp [fromLe32, a, b, c, d, e, h', hi]
  · have a : ¬ i < 8 := by omega
    have b : ¬ i - 8 < 8 := by omega
    have c : ¬ i < 24 := by omega
    have d : ¬ i - 16 < 8 := by omega
    have e : i - 24 < 8 := by omega
    have f : 24 + (i - 24) = i := by omega
    simp [fromLe32, a, b, c, d, e, f, hi]

/-- A chunk length within the bound has a zero high byte (R69). -/
theorem hi8_of_small (v : Half) (h : v.toNat < 256) : hi8 v = 0 := by
  apply BitVec.eq_of_toNat_eq
  simp [hi8, Nat.shiftRight_eq_div_pow]
  omega

/-- The low byte of a small value, read as a number, is the value (R69). -/
theorem toNat_lo8_of_small (v : Half) (h : v.toNat < 256) : (lo8 v).toNat = v.toNat := by
  simp [lo8]
  omega

/-- `kindOfCode` inverts the wire codes (R62). -/
@[simp] theorem kindOfCode_code (k : CommandKind) : kindOfCode k.code = some k := by cases k <;> rfl

/-- A byte names no kind exactly when it is none of the four codes (R62, R73). -/
theorem kindOfCode_eq_none (b : Byte) :
    kindOfCode b = none ↔ ¬ (b = CMD_START ∨ b = CMD_INFO ∨ b = CMD_DATA ∨ b = CMD_STOP) := by
  unfold kindOfCode
  split_ifs <;> simp_all

/-- A byte that names a kind is that kind's code (R62). -/
theorem code_of_kindOfCode (b : Byte) (k : CommandKind) (h : kindOfCode b = some k) : b = k.code := by
  unfold kindOfCode at h
  split_ifs at h <;> cases h <;> assumption

end Sys2Proof
end

