-- ==== Sys2Proof/Laws/Decode.lean ====
section
/-! SUPPORT. How the opcode-table rows read a packet header (spec/30_encoding.md R80). -/

namespace Sys2Proof

/-- The lenient mask keeps the command byte (R80, R132). -/
theorem header32_middle (a b c d : Byte) : header32 a b c d &&& (0x00FF0000 : Word) = b.setWidth 32 <<< 16 := by
  apply BitVec.eq_of_getLsbD_eq
  intro i hi
  simp only [header32, BitVec.getLsbD_and, BitVec.getLsbD_append, BitVec.getLsbD_shiftLeft, BitVec.getLsbD_setWidth]
  interval_cases i <;> simp

/-- Where all rows share a mask, the masked header decides the row (R80). -/
theorem rowOf_masked (rows : List HeaderRow) (m h v : Word) (hv : h &&& m = v) (hm : ∀ r ∈ rows, r.mask = m) :
    rowOf rows h = (rows.find? fun r => v == r.value).map HeaderRow.kind := by
  have : rows.find? (fun r => h &&& r.mask == r.value) = rows.find? (fun r => v == r.value) := by
    induction rows with
    | nil => rfl
    | cons r rows ih =>
      have h1 := hm r (List.mem_cons_self ..)
      have h2 := ih fun r' h' => hm r' (List.mem_cons_of_mem _ h')
      simp only [List.find?_cons, h1, hv, h2]
  rw [rowOf, this]

/-- The lenient rows read the command byte and nothing else: they are the code table of R62. -/
theorem lenientRow_eq (a b c d : Byte) : rowOf lenientRows (header32 a b c d) = kindOfCode b := by
  rw [rowOf_masked lenientRows _ _ _ (header32_middle a b c d) (by decide)]
  clear a c d
  revert b
  decide

end Sys2Proof
end

