-- ==== Sys2Proof/Laws/State.lean ====
section
/-! SUPPORT. One lemma per field per update of State, true by rfl, so that no later proof unfolds a record update. -/

namespace Sys2Proof.Machine

open Sys2Proof

/-! ### loadSeed -/

@[simp] theorem State.loadSeed_config (s : State) : s.loadSeed.config = s.config := by rfl
@[simp] theorem State.loadSeed_tableReady (s : State) : s.loadSeed.tableReady = s.tableReady := by rfl
@[simp] theorem State.loadSeed_requests (s : State) : s.loadSeed.requests = s.requests := by rfl
@[simp] theorem State.loadSeed_result (s : State) : s.loadSeed.result = s.result := by rfl
@[simp] theorem State.loadSeed_resetPending (s : State) : s.loadSeed.resetPending = s.resetPending := by rfl
@[simp] theorem State.loadSeed_regs (s : State) : s.loadSeed.regs = { s.regs with crc := CRC_SEED } := by rfl
@[simp] theorem State.loadSeed_spaces (s : State) : s.loadSeed.spaces = s.spaces := by rfl
@[simp] theorem State.loadSeed_freeCount (s : State) : s.loadSeed.freeCount = s.freeCount := by rfl
@[simp] theorem State.loadSeed_driver (s : State) : s.loadSeed.driver = s.driver := by rfl
@[simp] theorem State.loadSeed_transport (s : State) : s.loadSeed.transport = s.transport := by rfl

/-! ### feed -/

@[simp] theorem State.feed_config (s : State) (b : Byte) : (s.feed b).config = s.config := by rfl
@[simp] theorem State.feed_tableReady (s : State) (b : Byte) : (s.feed b).tableReady = s.tableReady := by rfl
@[simp] theorem State.feed_requests (s : State) (b : Byte) : (s.feed b).requests = s.requests := by rfl
@[simp] theorem State.feed_result (s : State) (b : Byte) : (s.feed b).result = s.result := by rfl
@[simp] theorem State.feed_resetPending (s : State) (b : Byte) : (s.feed b).resetPending = s.resetPending := by rfl
@[simp] theorem State.feed_regs (s : State) (b : Byte) : (s.feed b).regs = { s.regs with crc := crcStep s.config.crcTable s.regs.crc b } := by rfl
@[simp] theorem State.feed_spaces (s : State) (b : Byte) : (s.feed b).spaces = s.spaces := by rfl
@[simp] theorem State.feed_freeCount (s : State) (b : Byte) : (s.feed b).freeCount = s.freeCount := by rfl
@[simp] theorem State.feed_driver (s : State) (b : Byte) : (s.feed b).driver = s.driver := by rfl
@[simp] theorem State.feed_transport (s : State) (b : Byte) : (s.feed b).transport = s.transport := by rfl

/-! ### loadIn -/

@[simp] theorem State.loadIn_config (s : State) (i : List Byte) : (s.loadIn i).config = s.config := by rfl
@[simp] theorem State.loadIn_tableReady (s : State) (i : List Byte) : (s.loadIn i).tableReady = s.tableReady := by rfl
@[simp] theorem State.loadIn_requests (s : State) (i : List Byte) : (s.loadIn i).requests = s.requests := by rfl
@[simp] theorem State.loadIn_result (s : State) (i : List Byte) : (s.loadIn i).result = s.result := by rfl
@[simp] theorem State.loadIn_resetPending (s : State) (i : List Byte) : (s.loadIn i).resetPending = s.resetPending := by rfl
@[simp] theorem State.loadIn_regs (s : State) (i : List Byte) : (s.loadIn i).regs = s.regs := by rfl
@[simp] theorem State.loadIn_spaces (s : State) (i : List Byte) : (s.loadIn i).spaces = { s.spaces with input := some i } := by rfl
@[simp] theorem State.loadIn_freeCount (s : State) (i : List Byte) : (s.loadIn i).freeCount = s.freeCount := by rfl
@[simp] theorem State.loadIn_driver (s : State) (i : List Byte) : (s.loadIn i).driver = s.driver := by rfl
@[simp] theorem State.loadIn_transport (s : State) (i : List Byte) : (s.loadIn i).transport = s.transport := by rfl

/-! ### emit -/

@[simp] theorem State.emit_config (s : State) (b : Byte) : (s.emit b).config = s.config := by rfl
@[simp] theorem State.emit_tableReady (s : State) (b : Byte) : (s.emit b).tableReady = s.tableReady := by rfl
@[simp] theorem State.emit_requests (s : State) (b : Byte) : (s.emit b).requests = s.requests := by rfl
@[simp] theorem State.emit_result (s : State) (b : Byte) : (s.emit b).result = s.result := by rfl
@[simp] theorem State.emit_resetPending (s : State) (b : Byte) : (s.emit b).resetPending = s.resetPending := by rfl
@[simp] theorem State.emit_regs (s : State) (b : Byte) : (s.emit b).regs = { s.regs with pos := s.regs.pos + 1 } := by rfl
@[simp] theorem State.emit_spaces (s : State) (b : Byte) : (s.emit b).spaces = { s.spaces with out := some (s.spaces.out.getD [] ++ [b]) } := by rfl
@[simp] theorem State.emit_freeCount (s : State) (b : Byte) : (s.emit b).freeCount = s.freeCount := by rfl
@[simp] theorem State.emit_driver (s : State) (b : Byte) : (s.emit b).driver = s.driver := by rfl
@[simp] theorem State.emit_transport (s : State) (b : Byte) : (s.emit b).transport = s.transport := by rfl

/-! ### beginFrame -/

@[simp] theorem State.beginFrame_config (s : State) (c : Byte) (p : List Byte) : (s.beginFrame c p).config = s.config := by rfl
@[simp] theorem State.beginFrame_tableReady (s : State) (c : Byte) (p : List Byte) : (s.beginFrame c p).tableReady = s.tableReady := by rfl
@[simp] theorem State.beginFrame_requests (s : State) (c : Byte) (p : List Byte) : (s.beginFrame c p).requests = s.requests := by rfl
@[simp] theorem State.beginFrame_result (s : State) (c : Byte) (p : List Byte) : (s.beginFrame c p).result = s.result := by rfl
@[simp] theorem State.beginFrame_resetPending (s : State) (c : Byte) (p : List Byte) : (s.beginFrame c p).resetPending = s.resetPending := by rfl
@[simp] theorem State.beginFrame_regs (s : State) (c : Byte) (p : List Byte) : (s.beginFrame c p).regs = { s.regs with cmd := c, plen := BitVec.ofNat 16 p.length, pos := 0 } := by rfl
@[simp] theorem State.beginFrame_spaces (s : State) (c : Byte) (p : List Byte) : (s.beginFrame c p).spaces = { s.spaces with out := some [] } := by rfl
@[simp] theorem State.beginFrame_freeCount (s : State) (c : Byte) (p : List Byte) : (s.beginFrame c p).freeCount = s.freeCount := by rfl
@[simp] theorem State.beginFrame_driver (s : State) (c : Byte) (p : List Byte) : (s.beginFrame c p).driver = s.driver := by rfl
@[simp] theorem State.beginFrame_transport (s : State) (c : Byte) (p : List Byte) : (s.beginFrame c p).transport = s.transport := by rfl

/-! ### loadRaw -/

@[simp] theorem State.loadRaw_config (s : State) (r : List Byte) : (s.loadRaw r).config = s.config := by rfl
@[simp] theorem State.loadRaw_tableReady (s : State) (r : List Byte) : (s.loadRaw r).tableReady = s.tableReady := by rfl
@[simp] theorem State.loadRaw_requests (s : State) (r : List Byte) : (s.loadRaw r).requests = s.requests := by rfl
@[simp] theorem State.loadRaw_result (s : State) (r : List Byte) : (s.loadRaw r).result = s.result := by rfl
@[simp] theorem State.loadRaw_resetPending (s : State) (r : List Byte) : (s.loadRaw r).resetPending = s.resetPending := by rfl
@[simp] theorem State.loadRaw_regs (s : State) (r : List Byte) : (s.loadRaw r).regs = { s.regs with cnt := r.length } := by rfl
@[simp] theorem State.loadRaw_spaces (s : State) (r : List Byte) : (s.loadRaw r).spaces = { s.spaces with raw := some r } := by rfl
@[simp] theorem State.loadRaw_freeCount (s : State) (r : List Byte) : (s.loadRaw r).freeCount = s.freeCount := by rfl
@[simp] theorem State.loadRaw_driver (s : State) (r : List Byte) : (s.loadRaw r).driver = s.driver := by rfl
@[simp] theorem State.loadRaw_transport (s : State) (r : List Byte) : (s.loadRaw r).transport = s.transport := by rfl

/-! ### loadResponse -/

@[simp] theorem State.loadResponse_config (s : State) (c : Byte) (f : RspFields) : (s.loadResponse c f).config = s.config := by rfl
@[simp] theorem State.loadResponse_tableReady (s : State) (c : Byte) (f : RspFields) : (s.loadResponse c f).tableReady = s.tableReady := by rfl
@[simp] theorem State.loadResponse_requests (s : State) (c : Byte) (f : RspFields) : (s.loadResponse c f).requests = s.requests := by rfl
@[simp] theorem State.loadResponse_result (s : State) (c : Byte) (f : RspFields) : (s.loadResponse c f).result = s.result := by rfl
@[simp] theorem State.loadResponse_resetPending (s : State) (c : Byte) (f : RspFields) : (s.loadResponse c f).resetPending = s.resetPending := by rfl
@[simp] theorem State.loadResponse_regs (s : State) (c : Byte) (f : RspFields) : (s.loadResponse c f).regs = { s.regs with rcmd := c, rstat := f.status } := by rfl
@[simp] theorem State.loadResponse_spaces (s : State) (c : Byte) (f : RspFields) : (s.loadResponse c f).spaces = s.spaces := by rfl
@[simp] theorem State.loadResponse_freeCount (s : State) (c : Byte) (f : RspFields) : (s.loadResponse c f).freeCount = s.freeCount := by rfl
@[simp] theorem State.loadResponse_driver (s : State) (c : Byte) (f : RspFields) : (s.loadResponse c f).driver = s.driver := by rfl
@[simp] theorem State.loadResponse_transport (s : State) (c : Byte) (f : RspFields) : (s.loadResponse c f).transport = s.transport := by rfl

/-! ### loadStrict -/

@[simp] theorem State.loadStrict_config (s : State) (f : RspFields) : (s.loadStrict f).config = s.config := by rfl
@[simp] theorem State.loadStrict_tableReady (s : State) (f : RspFields) : (s.loadStrict f).tableReady = s.tableReady := by rfl
@[simp] theorem State.loadStrict_requests (s : State) (f : RspFields) : (s.loadStrict f).requests = s.requests := by rfl
@[simp] theorem State.loadStrict_result (s : State) (f : RspFields) : (s.loadStrict f).result = s.result := by rfl
@[simp] theorem State.loadStrict_resetPending (s : State) (f : RspFields) : (s.loadStrict f).resetPending = s.resetPending := by rfl
@[simp] theorem State.loadStrict_regs (s : State) (f : RspFields) : (s.loadStrict f).regs = { s.regs with rlen := fromLe16 f.lenLow f.lenHigh, rcrc := fromLe16 f.crcLow f.crcHigh } := by rfl
@[simp] theorem State.loadStrict_spaces (s : State) (f : RspFields) : (s.loadStrict f).spaces = s.spaces := by rfl
@[simp] theorem State.loadStrict_freeCount (s : State) (f : RspFields) : (s.loadStrict f).freeCount = s.freeCount := by rfl
@[simp] theorem State.loadStrict_driver (s : State) (f : RspFields) : (s.loadStrict f).driver = s.driver := by rfl
@[simp] theorem State.loadStrict_transport (s : State) (f : RspFields) : (s.loadStrict f).transport = s.transport := by rfl

/-! ### beginParse -/

@[simp] theorem State.beginParse_config (s : State) (r : List Byte) : (s.beginParse r).config = s.config := by
  unfold State.beginParse; split <;> rfl
@[simp] theorem State.beginParse_tableReady (s : State) (r : List Byte) : (s.beginParse r).tableReady = s.tableReady := by
  unfold State.beginParse; split <;> rfl
@[simp] theorem State.beginParse_requests (s : State) (r : List Byte) : (s.beginParse r).requests = s.requests := by
  unfold State.beginParse; split <;> rfl
@[simp] theorem State.beginParse_result (s : State) (r : List Byte) : (s.beginParse r).result = s.result := by
  unfold State.beginParse; split <;> rfl
@[simp] theorem State.beginParse_resetPending (s : State) (r : List Byte) : (s.beginParse r).resetPending = s.resetPending := by
  unfold State.beginParse; split <;> rfl
@[simp] theorem State.beginParse_regs (s : State) (r : List Byte) : (s.beginParse r).regs = if s.config.strict then { s.regs with cnt := r.length, crc := CRC_SEED } else { s.regs with cnt := r.length } := by
  unfold State.beginParse; split <;> rfl
@[simp] theorem State.beginParse_spaces (s : State) (r : List Byte) : (s.beginParse r).spaces = { s.spaces with raw := some r } := by
  unfold State.beginParse; split <;> rfl
@[simp] theorem State.beginParse_freeCount (s : State) (r : List Byte) : (s.beginParse r).freeCount = s.freeCount := by
  unfold State.beginParse; split <;> rfl
@[simp] theorem State.beginParse_driver (s : State) (r : List Byte) : (s.beginParse r).driver = s.driver := by
  unfold State.beginParse; split <;> rfl
@[simp] theorem State.beginParse_transport (s : State) (r : List Byte) : (s.beginParse r).transport = s.transport := by
  unfold State.beginParse; split <;> rfl

/-! ### copyResponse -/

@[simp] theorem State.copyResponse_config (s : State) (c : Byte) (f : RspFields) : (s.copyResponse c f).config = s.config := by
  unfold State.copyResponse; split <;> rfl
@[simp] theorem State.copyResponse_tableReady (s : State) (c : Byte) (f : RspFields) : (s.copyResponse c f).tableReady = s.tableReady := by
  unfold State.copyResponse; split <;> rfl
@[simp] theorem State.copyResponse_requests (s : State) (c : Byte) (f : RspFields) : (s.copyResponse c f).requests = s.requests := by
  unfold State.copyResponse; split <;> rfl
@[simp] theorem State.copyResponse_result (s : State) (c : Byte) (f : RspFields) : (s.copyResponse c f).result = s.result := by
  unfold State.copyResponse; split <;> rfl
@[simp] theorem State.copyResponse_resetPending (s : State) (c : Byte) (f : RspFields) : (s.copyResponse c f).resetPending = s.resetPending := by
  unfold State.copyResponse; split <;> rfl
@[simp] theorem State.copyResponse_regs (s : State) (c : Byte) (f : RspFields) : (s.copyResponse c f).regs = if s.config.strict then { s.regs with rcmd := c, rstat := f.status, rlen := fromLe16 f.lenLow f.lenHigh, rcrc := fromLe16 f.crcLow f.crcHigh } else { s.regs with rcmd := c, rstat := f.status } := by
  unfold State.copyResponse; split <;> rfl
@[simp] theorem State.copyResponse_spaces (s : State) (c : Byte) (f : RspFields) : (s.copyResponse c f).spaces = s.spaces := by
  unfold State.copyResponse; split <;> rfl
@[simp] theorem State.copyResponse_freeCount (s : State) (c : Byte) (f : RspFields) : (s.copyResponse c f).freeCount = s.freeCount := by
  unfold State.copyResponse; split <;> rfl
@[simp] theorem State.copyResponse_driver (s : State) (c : Byte) (f : RspFields) : (s.copyResponse c f).driver = s.driver := by
  unfold State.copyResponse; split <;> rfl
@[simp] theorem State.copyResponse_transport (s : State) (c : Byte) (f : RspFields) : (s.copyResponse c f).transport = s.transport := by
  unfold State.copyResponse; split <;> rfl

/-! ### conclude -/

@[simp] theorem State.conclude_config (s : State) (o : OpOutcome) : (s.conclude o).config = s.config := by rfl
@[simp] theorem State.conclude_tableReady (s : State) (o : OpOutcome) : (s.conclude o).tableReady = s.tableReady := by rfl
@[simp] theorem State.conclude_requests (s : State) (o : OpOutcome) : (s.conclude o).requests = s.requests.tail := by rfl
@[simp] theorem State.conclude_result (s : State) (o : OpOutcome) : (s.conclude o).result = some o := by rfl
@[simp] theorem State.conclude_resetPending (s : State) (o : OpOutcome) : (s.conclude o).resetPending = s.resetPending := by rfl
@[simp] theorem State.conclude_regs (s : State) (o : OpOutcome) : (s.conclude o).regs = Regs.unspecified s.freeCount := by rfl
@[simp] theorem State.conclude_spaces (s : State) (o : OpOutcome) : (s.conclude o).spaces = Spaces.absent := by rfl
@[simp] theorem State.conclude_freeCount (s : State) (o : OpOutcome) : (s.conclude o).freeCount = s.freeCount + 1 := by rfl
@[simp] theorem State.conclude_driver (s : State) (o : OpOutcome) : (s.conclude o).driver = s.driver := by rfl
@[simp] theorem State.conclude_transport (s : State) (o : OpOutcome) : (s.conclude o).transport = s.transport := by rfl

/-! ### present -/

@[simp] theorem State.present_config (s : State) (i : Instr) : (s.present i).config = s.config := by rfl
@[simp] theorem State.present_tableReady (s : State) (i : Instr) : (s.present i).tableReady = s.tableReady := by rfl
@[simp] theorem State.present_requests (s : State) (i : Instr) : (s.present i).requests = s.requests ++ [encode i] := by rfl
@[simp] theorem State.present_result (s : State) (i : Instr) : (s.present i).result = s.result := by rfl
@[simp] theorem State.present_resetPending (s : State) (i : Instr) : (s.present i).resetPending = s.resetPending := by rfl
@[simp] theorem State.present_regs (s : State) (i : Instr) : (s.present i).regs = s.regs := by rfl
@[simp] theorem State.present_spaces (s : State) (i : Instr) : (s.present i).spaces = s.spaces := by rfl
@[simp] theorem State.present_freeCount (s : State) (i : Instr) : (s.present i).freeCount = s.freeCount := by rfl
@[simp] theorem State.present_driver (s : State) (i : Instr) : (s.present i).driver = s.driver := by rfl
@[simp] theorem State.present_transport (s : State) (i : Instr) : (s.present i).transport = s.transport := by rfl

/-! ### takeResult -/

@[simp] theorem State.takeResult_config (s : State) : s.takeResult.config = s.config := by rfl
@[simp] theorem State.takeResult_tableReady (s : State) : s.takeResult.tableReady = s.tableReady := by rfl
@[simp] theorem State.takeResult_requests (s : State) : s.takeResult.requests = s.requests := by rfl
@[simp] theorem State.takeResult_result (s : State) : s.takeResult.result = none := by rfl
@[simp] theorem State.takeResult_resetPending (s : State) : s.takeResult.resetPending = s.resetPending := by rfl
@[simp] theorem State.takeResult_regs (s : State) : s.takeResult.regs = s.regs := by rfl
@[simp] theorem State.takeResult_spaces (s : State) : s.takeResult.spaces = s.spaces := by rfl
@[simp] theorem State.takeResult_freeCount (s : State) : s.takeResult.freeCount = s.freeCount := by rfl
@[simp] theorem State.takeResult_driver (s : State) : s.takeResult.driver = s.driver := by rfl
@[simp] theorem State.takeResult_transport (s : State) : s.takeResult.transport = s.transport := by rfl

/-! ### blockReset -/

@[simp] theorem State.blockReset_config (s : State) : s.blockReset.config = s.config := by rfl
@[simp] theorem State.blockReset_tableReady (s : State) : s.blockReset.tableReady = true := by rfl
@[simp] theorem State.blockReset_requests (s : State) : s.blockReset.requests = [] := by rfl
@[simp] theorem State.blockReset_result (s : State) : s.blockReset.result = none := by rfl
@[simp] theorem State.blockReset_resetPending (s : State) : s.blockReset.resetPending = false := by rfl
@[simp] theorem State.blockReset_regs (s : State) : s.blockReset.regs = Regs.unspecified s.freeCount := by rfl
@[simp] theorem State.blockReset_spaces (s : State) : s.blockReset.spaces = Spaces.absent := by rfl
@[simp] theorem State.blockReset_freeCount (s : State) : s.blockReset.freeCount = s.freeCount + 1 := by rfl
@[simp] theorem State.blockReset_driver (s : State) : s.blockReset.driver = s.driver := by rfl
@[simp] theorem State.blockReset_transport (s : State) : s.blockReset.transport = s.transport := by rfl

/-! ### withDriver -/

@[simp] theorem State.withDriver_config (s : State) (d : Driver) : (s.withDriver d).config = s.config := by rfl
@[simp] theorem State.withDriver_tableReady (s : State) (d : Driver) : (s.withDriver d).tableReady = s.tableReady := by rfl
@[simp] theorem State.withDriver_requests (s : State) (d : Driver) : (s.withDriver d).requests = s.requests := by rfl
@[simp] theorem State.withDriver_result (s : State) (d : Driver) : (s.withDriver d).result = s.result := by rfl
@[simp] theorem State.withDriver_resetPending (s : State) (d : Driver) : (s.withDriver d).resetPending = s.resetPending := by rfl
@[simp] theorem State.withDriver_regs (s : State) (d : Driver) : (s.withDriver d).regs = s.regs := by rfl
@[simp] theorem State.withDriver_spaces (s : State) (d : Driver) : (s.withDriver d).spaces = s.spaces := by rfl
@[simp] theorem State.withDriver_freeCount (s : State) (d : Driver) : (s.withDriver d).freeCount = s.freeCount := by rfl
@[simp] theorem State.withDriver_driver (s : State) (d : Driver) : (s.withDriver d).driver = d := by rfl
@[simp] theorem State.withDriver_transport (s : State) (d : Driver) : (s.withDriver d).transport = s.transport := by rfl

/-! ### goto -/

@[simp] theorem State.goto_config (s : State) (p : Phase) (a : Act) : (s.goto p a).config = s.config := by rfl
@[simp] theorem State.goto_tableReady (s : State) (p : Phase) (a : Act) : (s.goto p a).tableReady = s.tableReady := by rfl
@[simp] theorem State.goto_requests (s : State) (p : Phase) (a : Act) : (s.goto p a).requests = s.requests := by rfl
@[simp] theorem State.goto_result (s : State) (p : Phase) (a : Act) : (s.goto p a).result = s.result := by rfl
@[simp] theorem State.goto_resetPending (s : State) (p : Phase) (a : Act) : (s.goto p a).resetPending = s.resetPending := by rfl
@[simp] theorem State.goto_regs (s : State) (p : Phase) (a : Act) : (s.goto p a).regs = s.regs := by rfl
@[simp] theorem State.goto_spaces (s : State) (p : Phase) (a : Act) : (s.goto p a).spaces = s.spaces := by rfl
@[simp] theorem State.goto_freeCount (s : State) (p : Phase) (a : Act) : (s.goto p a).freeCount = s.freeCount := by rfl
@[simp] theorem State.goto_driver (s : State) (p : Phase) (a : Act) : (s.goto p a).driver = { s.driver with phase := p, act := a } := by rfl
@[simp] theorem State.goto_transport (s : State) (p : Phase) (a : Act) : (s.goto p a).transport = s.transport := by rfl

/-! ### abort -/

@[simp] theorem State.abort_config (s : State) (r : AbortReason) : (s.abort r).config = s.config := by rfl
@[simp] theorem State.abort_tableReady (s : State) (r : AbortReason) : (s.abort r).tableReady = s.tableReady := by rfl
@[simp] theorem State.abort_requests (s : State) (r : AbortReason) : (s.abort r).requests = s.requests := by rfl
@[simp] theorem State.abort_result (s : State) (r : AbortReason) : (s.abort r).result = s.result := by rfl
@[simp] theorem State.abort_resetPending (s : State) (r : AbortReason) : (s.abort r).resetPending = s.resetPending := by rfl
@[simp] theorem State.abort_regs (s : State) (r : AbortReason) : (s.abort r).regs = s.regs := by rfl
@[simp] theorem State.abort_spaces (s : State) (r : AbortReason) : (s.abort r).spaces = s.spaces := by rfl
@[simp] theorem State.abort_freeCount (s : State) (r : AbortReason) : (s.abort r).freeCount = s.freeCount := by rfl
@[simp] theorem State.abort_driver (s : State) (r : AbortReason) : (s.abort r).driver = { s.driver with phase := .aborted r, act := .rest } := by rfl
@[simp] theorem State.abort_transport (s : State) (r : AbortReason) : (s.abort r).transport = s.transport := by rfl

/-! ### ask -/

@[simp] theorem State.ask_config (s : State) (i : Instr) (a : Act) : (s.ask i a).config = s.config := by rfl
@[simp] theorem State.ask_tableReady (s : State) (i : Instr) (a : Act) : (s.ask i a).tableReady = s.tableReady := by rfl
@[simp] theorem State.ask_requests (s : State) (i : Instr) (a : Act) : (s.ask i a).requests = s.requests ++ [encode i] := by rfl
@[simp] theorem State.ask_result (s : State) (i : Instr) (a : Act) : (s.ask i a).result = s.result := by rfl
@[simp] theorem State.ask_resetPending (s : State) (i : Instr) (a : Act) : (s.ask i a).resetPending = s.resetPending := by rfl
@[simp] theorem State.ask_regs (s : State) (i : Instr) (a : Act) : (s.ask i a).regs = s.regs := by rfl
@[simp] theorem State.ask_spaces (s : State) (i : Instr) (a : Act) : (s.ask i a).spaces = s.spaces := by rfl
@[simp] theorem State.ask_freeCount (s : State) (i : Instr) (a : Act) : (s.ask i a).freeCount = s.freeCount := by rfl
@[simp] theorem State.ask_driver (s : State) (i : Instr) (a : Act) : (s.ask i a).driver = { s.driver with act := a, heldRaw := (rawOperand i).or s.driver.heldRaw } := by rfl
@[simp] theorem State.ask_transport (s : State) (i : Instr) (a : Act) : (s.ask i a).transport = s.transport := by rfl

/-! ### withFetchWord -/

@[simp] theorem State.withFetchWord_config (s : State) (n w : Nat) : (s.withFetchWord n w).config = s.config := by rfl
@[simp] theorem State.withFetchWord_tableReady (s : State) (n w : Nat) : (s.withFetchWord n w).tableReady = s.tableReady := by rfl
@[simp] theorem State.withFetchWord_requests (s : State) (n w : Nat) : (s.withFetchWord n w).requests = [tableRequest n w] := by rfl
@[simp] theorem State.withFetchWord_result (s : State) (n w : Nat) : (s.withFetchWord n w).result = none := by rfl
@[simp] theorem State.withFetchWord_resetPending (s : State) (n w : Nat) : (s.withFetchWord n w).resetPending = false := by rfl
@[simp] theorem State.withFetchWord_regs (s : State) (n w : Nat) : (s.withFetchWord n w).regs = s.regs := by rfl
@[simp] theorem State.withFetchWord_spaces (s : State) (n w : Nat) : (s.withFetchWord n w).spaces = s.spaces := by rfl
@[simp] theorem State.withFetchWord_freeCount (s : State) (n w : Nat) : (s.withFetchWord n w).freeCount = s.freeCount := by rfl
@[simp] theorem State.withFetchWord_driver (s : State) (n w : Nat) : (s.withFetchWord n w).driver = s.driver := by rfl
@[simp] theorem State.withFetchWord_transport (s : State) (n w : Nat) : (s.withFetchWord n w).transport = s.transport := by rfl

end Sys2Proof.Machine
end

