-- ==== Sys2Proof/Laws/Ops.lean ====
section
/-! SUPPORT. One lemma per shared operation that says everything it does; later proofs cite these and do not unfold. -/

namespace Sys2Proof.Machine

open Sys2Proof

/-! ### The checksum -/

@[simp] theorem checksumFrom_nil (t : CrcTable) (c : Half) : checksumFrom t c [] = c := rfl

@[simp] theorem checksumFrom_cons (t : CrcTable) (c : Half) (b : Byte) (s : List Byte) :
    checksumFrom t c (b :: s) = checksumFrom t (crcStep t c b) s := rfl

theorem checksumFrom_append (t : CrcTable) (c : Half) (s u : List Byte) :
    checksumFrom t c (s ++ u) = checksumFrom t (checksumFrom t c s) u := by
  simp [checksumFrom, List.foldl_append]

/-- Feeding bytes changes `crc` alone (R90, R91). -/
theorem State.feedAll_eq (s : State) (bs : List Byte) :
    s.feedAll bs = { s with regs := { s.regs with crc := checksumFrom s.config.crcTable s.regs.crc bs } } := by
  induction bs generalizing s with
  | nil => rfl
  | cons b bs ih =>
    change (s.feed b).feedAll bs = _
    rw [ih]
    rfl

/-! ### The spaces -/

/-- Advancing by one and then by `n` is advancing by `n + 1` (R23). -/
theorem pos_add (p : Byte) (n : Nat) : p + 1#8 + BitVec.ofNat 8 n = p + BitVec.ofNat 8 (n + 1) := by
  apply BitVec.eq_of_toNat_eq
  simp
  omega

/-- Appending to a space that holds bytes (R47). -/
theorem State.emitAll_eq (s : State) (bs o : List Byte) (h : s.spaces.out = some o) :
    s.emitAll bs =
      { s with
        spaces := { s.spaces with out := some (o ++ bs) }
        regs := { s.regs with pos := s.regs.pos + BitVec.ofNat 8 bs.length } } := by
  induction bs generalizing s o with
  | nil => simp [State.emitAll, ← h]
  | cons b bs ih =>
    change (s.emit b).emitAll bs = _
    rw [ih _ (o ++ [b]) (by simp [h])]
    simp [State.emit, pos_add]

/-- Emitting the checksummed slice appends it to `OUT` and runs `crc` over it (R110). -/
theorem State.emitFedAll_eq (s : State) (bs o : List Byte) (h : s.spaces.out = some o) :
    s.emitFedAll bs =
      { s with
        spaces := { s.spaces with out := some (o ++ bs) }
        regs := { s.regs with
          pos := s.regs.pos + BitVec.ofNat 8 bs.length
          crc := checksumFrom s.config.crcTable s.regs.crc bs } } := by
  induction bs generalizing s o with
  | nil => simp [State.emitFedAll, ← h]
  | cons b bs ih =>
    change (s.emitFed b).emitFedAll bs = _
    rw [ih _ (o ++ [b]) (by simp [State.emitFed, h])]
    simp [State.emitFed, State.emit, State.feed, pos_add]

/-- The byte-serial framing fills `OUT` with `frame(cmd, payload)` and touches nothing but the registers (R110). -/
theorem State.emitFrame_eq (s : State) (cmd : Byte) (payload : List Byte) :
    ∃ r, s.emitFrame cmd payload =
      { s with
        regs := r, spaces := { s.spaces with out := some (frame s.config.crcTable cmd payload) } } := by
  unfold State.emitFrame
  dsimp only
  rw [State.emitFedAll_eq _ _ [MARK_START] (by simp), State.emitAll_eq _ _ _ rfl]
  exact ⟨_, by simp [State.emit, State.loadSeed, State.beginFrame, frame, checkedSlice, checksum]; rfl⟩

/-- Every space's cells are in the canonical form: addresses strictly rising (R40). -/
theorem Memory.cells_wf (space : Option (List Byte)) : Memory.wf (Memory.cells space) = true := by
  suffices h : ∀ (l : List Byte) (k : Nat), Memory.wf ((l.zipIdx k).map fun p => (p.2, p.1)) = true from h _ 0
  intro l
  induction l with
  | nil => intro k; rfl
  | cons a l ih =>
    intro k
    cases l with
    | nil => rfl
    | cons b l =>
      have := ih (k + 1)
      simp only [List.zipIdx_cons, List.map_cons] at this ⊢
      simp [Memory.wf, this]

@[simp] theorem readBytes_some (s : List Byte) (n : Nat) : readBytes (some s) n = s.take n := by
  simp [readBytes, slice]

/-- A byte of `OUT` reads the same after further bytes are emitted; the byte emitted reads at the old length (R47). -/
theorem readByte_emit (s : State) (o : List Byte) (b : Byte) (h : s.spaces.out = some o) (i : Nat) :
    readByte (s.emit b).spaces.out i = if i = o.length then some b else readByte (some o) i := by
  simp only [State.emit_spaces, h, Option.getD_some, readByte, Option.bind_some]
  rcases Nat.lt_trichotomy i o.length with hi | hi | hi
  · simp [List.getElem?_append_left hi, Nat.ne_of_lt hi]
  · simp [hi]
  · rw [List.getElem?_eq_none (by simp; omega), List.getElem?_eq_none (by omega), if_neg (by omega)]

/-! ### The end of an operation -/

/-- What an operation did to registers and spaces is gone when it ends (R20, R188). -/
@[simp] theorem State.conclude_forgets (s : State) (r : Regs) (sp : Spaces) (o : OpOutcome) :
    ({ s with regs := r, spaces := sp } : State).conclude o = s.conclude o := rfl

@[simp] theorem State.beginParse_conclude (s : State) (raw : List Byte) (o : OpOutcome) :
    (s.beginParse raw).conclude o = s.conclude o := by unfold State.beginParse; split <;> rfl

@[simp] theorem State.copyResponse_conclude (s : State) (c : Byte) (f : RspFields) (o : OpOutcome) :
    (s.copyResponse c f).conclude o = s.conclude o := by unfold State.copyResponse; split <;> rfl

theorem State.deliver_eq (s : State) (v : OpValue) : s.deliver v = .next (s.conclude (.ok v)) := rfl

theorem State.raise_eq (s : State) (e : ParseError) : s.raise e = .next (s.conclude (.error e)) := rfl

/-- With the table initialised a request goes ahead (R213). -/
theorem State.needTable_ready (s : State) (k : State → Host.Outcome State Fault Refusal) (h : s.tableReady = true) :
    s.needTable k = k s := by simp [State.needTable, h]

/-- Before that it is refused (R213). -/
theorem State.needTable_not_ready (s : State) (k : State → Host.Outcome State Fault Refusal)
    (h : s.tableReady = false) : s.needTable k = .refused .tableNotInitialised := by simp [State.needTable, h]

/-- Framing a payload delivers `frame(cmd, payload)` (R110). -/
theorem buildPacket_ready (s : State) (cmd : Byte) (payload : List Byte) (h : s.tableReady = true) :
    buildPacket cmd payload s = .next (s.conclude (.ok (.packet (frame s.config.crcTable cmd payload)))) := by
  rw [buildPacket, State.needTable_ready _ _ h]
  obtain ⟨r, hr⟩ := State.emitFrame_eq s cmd payload
  simp only [hr, State.deliver_eq, Option.getD_some]
  rfl

/-- Before the table is initialised a builder is refused (R213). -/
theorem buildPacket_not_ready (s : State) (cmd : Byte) (payload : List Byte) (h : s.tableReady = false) :
    buildPacket cmd payload s = .refused .tableNotInitialised := State.needTable_not_ready _ _ h

/-! ### The transport and the driver's accessors -/

@[simp] theorem rawOperand_parseResponse (raw : List Byte) : rawOperand (.parseResponse raw) = some raw := rfl

theorem Transport.nextRead_nil (t : Transport) (h : t.reads = []) : t.nextRead = t.laterRead := by
  simp [Transport.nextRead, h]

theorem Transport.laterRead_silent (t : Transport) (h : t.later = .cycle []) : t.laterRead = (.bytes [], t) := by
  simp [Transport.laterRead, h]

theorem Transport.laterRead_cycle (t : Transport) (r : ReadResult) (rs : List ReadResult) (h : t.later = .cycle (r :: rs)) :
    t.laterRead = (r, { t with later := .cycle (rs ++ [r]) }) := by simp [Transport.laterRead, h]

theorem Transport.laterRead_free (t : Transport) (h : t.later = .free) :
    t.laterRead = (freeReadResult t.drawn, { t with drawn := t.drawn + 1 }) := by simp [Transport.laterRead, h]

theorem Transport.nextRead_cons (t : Transport) (r : ReadResult) (rest : List ReadResult) (h : t.reads = r :: rest) :
    t.nextRead = (r, { t with reads := rest }) := by simp [Transport.nextRead, h]

/-- What a read changes: the listed reads, the later ones, the count of free draws (R151). -/
theorem Transport.nextRead_keeps (t : Transport) : t.nextRead.2.sent = t.sent ∧ t.nextRead.2.writes = t.writes := by
  unfold Transport.nextRead Transport.laterRead
  split
  · split <;> exact ⟨rfl, rfl⟩
  · exact ⟨rfl, rfl⟩

/-- A write that does not fail sends the whole packet and uses up one listed result, if there is one (R151). -/
theorem Transport.write_done (t : Transport) (p : List Byte) (h : t.writes = [] ∨ ∃ rest, t.writes = .done :: rest) :
    t.write p = (true, { t with sent := t.sent ++ [p], writes := t.writes.tail }) := by
  rcases h with h | ⟨rest, h⟩ <;> simp [Transport.write, h]

theorem Transport.write_nil (t : Transport) (p : List Byte) (h : t.writes = []) :
    t.write p = (true, { t with sent := t.sent ++ [p] }) := by simp [Transport.write, h]

/-- A read leaves what was written alone. -/
@[simp] theorem Transport.nextRead_sent (t : Transport) : t.nextRead.2.sent = t.sent := by
  exact t.nextRead_keeps.1

/-- A write leaves the reads to come alone. -/
@[simp] theorem Transport.write_reads (t : Transport) (p : List Byte) : (t.write p).2.reads = t.reads := by
  unfold Transport.write; split <;> rfl

/-- The chunk a driver asks for is as long as it says and at most `DATA_MAX` (R157). -/
theorem chunkLength_le (total offset : Word) : chunkLength total offset ≤ DATA_MAX := Nat.min_le_left _ _

theorem bytesAt_length (src : FirmwareSource) (offset n : Nat) (h : src.wf = true) (hn : offset + n ≤ src.size.toNat) :
    (src.bytesAt offset n).length = n := by
  simp only [FirmwareSource.wf, decide_eq_true_eq] at h
  simp [FirmwareSource.bytesAt, slice, h]
  omega

end Sys2Proof.Machine
end

