-- ==== Sys2Proof/Laws/Response.lean ====
section
/-! SUPPORT. The interpreter's shared operation says, once, its outcome as a function of table, mode and bytes
(spec/42_response_interpreter.md R130). -/

namespace Sys2Proof.Machine

open Sys2Proof

/-- The outcome once eight bytes are there: strict framing, command byte, strict checksum, status (R187). -/
def interpretOutcome (t : CrcTable) (strict : Bool) (command : Byte) (f : RspFields) : OpOutcome :=
  if strict && !framingOk f.startMark (fromLe16 f.lenLow f.lenHigh) f.endMark then .error .malformed
  else
    match kindOfCode command with
    | none => .error .malformed
    | some k =>
      if strict && fromLe16 f.crcLow f.crcHigh != checksum t [command, f.lenLow, f.lenHigh, f.status] then
        .error .checksumMismatch
      else .ok (.response k (decodeStatus f.status))

/-- The outcome of a parse (R130, R131). -/
def parseOutcome (t : CrcTable) (strict : Bool) (raw : List Byte) : OpOutcome :=
  match rspBytes raw with
  | none => .error .malformed
  | some (command, f) => interpretOutcome t strict command f

/-- Eight bytes or more are read, fewer are not (R131). -/
theorem rspBytes_eq_none (raw : List Byte) : rspBytes raw = none ↔ raw.length < RSP_MIN := by
  unfold rspBytes
  split
  · simp [RSP_MIN]
  · rename_i h
    simp only [RSP_MIN, true_iff]
    by_contra hl
    match raw, h with
    | [], _ | [_], _ | [_, _], _ | [_, _, _], _ | [_, _, _, _], _ | [_, _, _, _, _], _ | [_, _, _, _, _, _], _
    | [_, _, _, _, _, _, _], _ => simp at hl
    | b0 :: b1 :: b2 :: b3 :: b4 :: b5 :: b6 :: b7 :: rest, h => exact h b0 b1 b2 b3 b4 b5 b6 b7 rest rfl

theorem checkResponseChecksum_eq (k : CommandKind) (c : Byte) (f : RspFields) (s : State) (h : s.regs.rstat = f.status)
    (hr : s.regs.rcrc = fromLe16 f.crcLow f.crcHigh) (hc : s.regs.crc = CRC_SEED) :
    checkResponseChecksum k c f s =
      .next (s.conclude
        (if fromLe16 f.crcLow f.crcHigh != checksum s.config.crcTable [c, f.lenLow, f.lenHigh, f.status] then
          .error .checksumMismatch
        else .ok (.response k (decodeStatus f.status)))) := by
  simp only [checkResponseChecksum, State.feedAll_eq, State.deliver_eq, State.raise_eq, h, hr, hc]
  change (if _ = checksum _ _ then _ else _) = _
  by_cases e : fromLe16 f.crcLow f.crcHigh = checksum s.config.crcTable [c, f.lenLow, f.lenHigh, f.status]
  · rw [if_pos e, if_neg (by simp [e])]
    rfl
  · rw [if_neg e, if_pos (by simpa using e)]
    rfl

theorem interpret_eq (c : Byte) (f : RspFields) (s : State) (hc : s.config.strict = true → s.regs.crc = CRC_SEED) :
    interpret c f s = .next (s.conclude (interpretOutcome s.config.crcTable s.config.strict c f)) := by
  unfold interpret interpretOutcome
  cases hs : s.config.strict with
  | false =>
    simp only [State.copyResponse_config, State.copyResponse_regs, hs, Bool.false_and, Bool.false_eq_true, if_false]
    cases kindOfCode c <;> simp [State.raise_eq, State.deliver_eq, State.copyResponse_conclude]
  | true =>
    simp only [State.copyResponse_config, State.copyResponse_regs, hs, if_true, Bool.true_and]
    split
    · simp [State.raise_eq, State.copyResponse_conclude]
    · cases kindOfCode c with
      | none => simp [State.raise_eq, State.copyResponse_conclude]
      | some k =>
        simp only
        rw [checkResponseChecksum_eq _ _ _ _ (by simp [hs]) (by simp [hs]) (by simpa [hs] using hc hs)]
        simp [State.copyResponse_conclude]

/-- Where a parse has a defined result (R213), it ends with `parseOutcome` and changes nothing else (R188). -/
theorem interpretRaw_ready (raw : List Byte) (s : State) (h : s.config.strict = true → s.tableReady = true) :
    interpretRaw raw s = .next (s.conclude (parseOutcome s.config.crcTable s.config.strict raw)) := by
  have hc : ¬ (s.config.strict && !s.tableReady) = true := by
    simp only [Bool.and_eq_true, Bool.not_eq_true', not_and, Bool.not_eq_false]
    exact h
  unfold interpretRaw parseOutcome
  rw [if_neg hc]
  have hcnt : (s.beginParse raw).regs.cnt = raw.length := by simp only [State.beginParse_regs]; split <;> rfl
  simp only [hcnt]
  cases hr : rspBytes raw with
  | none =>
    rw [if_pos ((rspBytes_eq_none raw).mp hr), State.raise_eq, State.beginParse_conclude]
  | some p =>
    rw [if_neg (by rw [← rspBytes_eq_none, hr]; simp)]
    have := interpret_eq p.1 p.2 (s.beginParse raw) fun hs => by simp_all
    simpa using this

/-- Strict, and the table not initialised: refused (R213). -/
theorem interpretRaw_refused (raw : List Byte) (s : State) (h : s.config.strict = true) (ht : s.tableReady = false) :
    interpretRaw raw s = .refused .tableNotInitialised := by simp [interpretRaw, h, ht]

end Sys2Proof.Machine
end

