-- ==== Sys2Proof/Laws/Meanings.lean ====
section
/-! SUPPORT. What each meaning comes to once its request is sound: one ending of the same state (spec/60_exceptions.md R180).
Later proofs cite these and unfold no meaning. -/

namespace Sys2Proof.Machine

open Sys2Proof

/-- The contract of `BUILD_DATA` as two comparisons (R113, R116). -/
theorem buildData_wf_iff (input : List Byte) (n : Half) :
    (Instr.buildData input n).wf = true ↔ n.toNat ≤ DATA_MAX ∧ n.toNat ≤ input.length := by
  unfold Instr.wf chunkInBound chunkSupplied
  rw [Bool.and_eq_true, decide_eq_true_eq, decide_eq_true_eq]

/-- An ended operation has changed its request, its outcome and the registers, and nothing else (R188). -/
theorem State.conclude_leaves (s : State) (o : OpOutcome) : LeavesTheRest s (s.conclude o) :=
  ⟨rfl, rfl, rfl, rfl, rfl, rfl, rfl⟩

/-- A request that ends with an outcome yields it (R180, R188). -/
theorem yields_of_conclude (i : Instr) (s : State) (o : OpOutcome) (h : exec i s = .next (s.conclude o)) :
    Yields i s o := ⟨_, h, rfl, s.conclude_leaves o⟩

/-- `CHECKSUM(IN)` with the table initialised (R90). -/
theorem execChecksum_ready (input : List Byte) (s : State) (h : s.tableReady = true) :
    execChecksum input s = .next (s.conclude (.ok (.checksum (checksum s.config.crcTable input)))) := by
  rw [execChecksum, State.needTable_ready _ _ h]
  simp [State.feedAll_eq, State.deliver_eq, checksum]

/-- `PARSE_RESPONSE(RAW)` where it has a defined result (R130, R213). -/
theorem exec_parseResponse_ready (raw : List Byte) (s : State) (h : s.config.strict = true → s.tableReady = true) :
    exec (.parseResponse raw) s = .next (s.conclude (parseOutcome s.config.crcTable s.config.strict raw)) :=
  interpretRaw_ready raw s h

/-- What a request with a `RAW` operand does is `PARSE_RESPONSE` of it (R71, R80). -/
theorem exec_of_rawOperand (i : Instr) (raw : List Byte) (h : rawOperand i = some raw) (s : State) :
    exec i s = exec (.parseResponse raw) s := by
  cases i <;> cases h <;> rfl

/-- A builder passes no `RAW` in (R40). -/
theorem rawOperand_of_isBuilder (i : Instr) (h : i.isBuilder = true) : rawOperand i = none := by
  cases i <;> first | rfl | cases h

/-- A request has a `RAW` operand exactly when it is a parse (R31, R80). -/
theorem rawOperand_isSome (i : Instr) : (rawOperand i).isSome = i.isParse := by cases i <;> rfl

/-- `BUILD_DATA` inside its contract, with the table initialised (R113). -/
theorem execBuildData_ready (input : List Byte) (n : Half) (s : State) (hw : (Instr.buildData input n).wf = true)
    (h : s.tableReady = true) :
    execBuildData input n s =
      .next (s.conclude (.ok (.packet (frame s.config.crcTable CMD_DATA (input.take n.toNat))))) := by
  rw [buildData_wf_iff] at hw
  rw [execBuildData, if_neg (by omega)]
  simp only [State.loadIn_spaces, readBytes_some]
  exact buildPacket_ready (s.loadIn input) _ _ h

/-- `BUILD_DATA` outside its contract (R116). -/
theorem execBuildData_refused (input : List Byte) (n : Half) (s : State) (hw : (Instr.buildData input n).wf = false) :
    execBuildData input n s = .refused .contractViolation := by
  have h : ¬ (n.toNat ≤ DATA_MAX ∧ n.toNat ≤ input.length) := by simp [← buildData_wf_iff, hw]
  rw [execBuildData, if_pos (by omega)]

end Sys2Proof.Machine
end

