-- ==== Sys2Proof/Laws/PerInstr.lean ====
section
/-! SUPPORT. What holds of every request as syntax, one lemma per constructor: the columns of spec/opcode_table.json. -/

namespace Sys2Proof.Laws.TableColumns

open Sys2Proof

/-- The column `opsel` of the table (R75, R80). -/
def opsel : Instr → Byte
  | .checksum _ => 0
  | .buildStart => 1
  | .buildInfo _ => 2
  | .buildData _ _ => 3
  | .buildStop => 4
  | .rspStart _ => 5
  | .rspInfo _ => 5
  | .rspData _ => 5
  | .rspStop _ => 5
  | .parseResponse _ => 5

/-- The command kind a packet row is about; none for the two rows without a wire form (R77, R80). -/
def kind : Instr → Option CommandKind
  | .checksum _ => none
  | .buildStart => some .start
  | .buildInfo _ => some .info
  | .buildData _ _ => some .firmwareData
  | .buildStop => some .stop
  | .rspStart _ => some .start
  | .rspInfo _ => some .info
  | .rspData _ => some .firmwareData
  | .rspStop _ => some .stop
  | .parseResponse _ => none

/-- The first four bytes as the table reads them (R80). -/
def header : List Byte → Word
  | b0 :: b1 :: b2 :: b3 :: _ => header32 b0 b1 b2 b3
  | _ => 0

/-- A request at the operation port begins with its row's `OPSEL` (R75); a response belongs to its lenient row and to no other
(R80, R132); the packet a well-formed builder sends belongs to its command row and to no other (R69, R80). -/
def Statement (i : Instr) : Prop :=
  ((encode i).format = .operation → (encode i).bytes.head? = some (opsel i)) ∧
  ((encode i).format = .responsePacket → rowOf lenientRows (header (encode i).bytes) = kind i) ∧
  (encode i).format ≠ .commandPacket ∧
  ∀ head, commandHead i = some head → i.wf = true → rowOf commandRows (header head) = kind i

theorem checksum (input : List Byte) : Statement (.checksum input) :=
  ⟨fun _ => rfl, fun h => (by cases h), fun h => (by cases h), fun _ h => (by cases h)⟩

theorem buildStart : Statement .buildStart :=
  ⟨fun _ => rfl, fun h => (by cases h), fun h => (by cases h), fun _ h _ => by cases h; decide⟩

theorem buildInfo (md : FirmwareMetadata) : Statement (.buildInfo md) :=
  ⟨fun _ => rfl, fun h => (by cases h), fun h => (by cases h), fun _ h _ => by
    cases h
    change rowOf commandRows (header32 MARK_START CMD_INFO 0x09 0x00) = some .info
    decide⟩

/-- Every LENGTH_LOW belongs to the DATA row when LENGTH_HIGH is zero (R69, R80). -/
theorem dataRow (n : Byte) : rowOf commandRows (header32 MARK_START CMD_DATA n 0x00) = some .firmwareData := by
  revert n
  decide

theorem buildData (input : List Byte) (n : Half) : Statement (.buildData input n) :=
  ⟨fun _ => rfl, fun h => (by cases h), fun h => (by cases h), fun _ h hw => by
    cases h
    have hn : n.toNat ≤ 128 := by
      unfold Instr.wf chunkInBound at hw
      exact of_decide_eq_true (Bool.and_eq_true _ _ ▸ hw).1
    change rowOf commandRows (header32 MARK_START CMD_DATA (lo8 n) (hi8 n)) = some .firmwareData
    rw [hi8_of_small n (by omega)]
    exact dataRow (lo8 n)⟩

theorem buildStop : Statement .buildStop :=
  ⟨fun _ => rfl, fun h => (by cases h), fun h => (by cases h), fun _ h _ => by cases h; decide⟩

theorem rspStart (f : RspFields) : Statement (.rspStart f) :=
  ⟨fun h => (by cases h), fun _ => lenientRow_eq f.startMark CMD_START f.lenLow f.lenHigh, fun h => (by cases h),
    fun _ h => (by cases h)⟩

theorem rspInfo (f : RspFields) : Statement (.rspInfo f) :=
  ⟨fun h => (by cases h), fun _ => lenientRow_eq f.startMark CMD_INFO f.lenLow f.lenHigh, fun h => (by cases h),
    fun _ h => (by cases h)⟩

theorem rspData (f : RspFields) : Statement (.rspData f) :=
  ⟨fun h => (by cases h), fun _ => lenientRow_eq f.startMark CMD_DATA f.lenLow f.lenHigh, fun h => (by cases h),
    fun _ h => (by cases h)⟩

theorem rspStop (f : RspFields) : Statement (.rspStop f) :=
  ⟨fun h => (by cases h), fun _ => lenientRow_eq f.startMark CMD_STOP f.lenLow f.lenHigh, fun h => (by cases h),
    fun _ h => (by cases h)⟩

theorem parseResponse (raw : List Byte) : Statement (.parseResponse raw) :=
  ⟨fun _ => rfl, fun h => (by cases h), fun h => (by cases h), fun _ h => (by cases h)⟩

end Sys2Proof.Laws.TableColumns
end

