-- ==== Sys2Proof/Laws/Runs.lean ====
section
/-! SUPPORT. Which agent moves in a step (spec/20_memory.md R50, spec/70_reset_and_hazards.md R212), and runs of many steps. -/

namespace Sys2Proof.Machine

open Sys2Proof

/-- A standing reset lands first (R212). -/
theorem step_reset (s : State) (h : s.resetPending = true) : step s = .next s.blockReset := by simp [step, h]

/-- With nothing standing at the block the driver moves (R163). -/
theorem step_driver (s : State) (h : s.resetPending = false) (hr : s.requests = []) : step s = driverStep s := by
  simp [step, h, hr]

/-- One request stands, and no outcome beside it: the block answers it (R50). -/
theorem step_block (s : State) (r : Request) (i : Instr) (h : s.resetPending = false) (hr : s.requests = [r])
    (ho : s.result = none) (hd : decode r = .ok i) : step s = exec i s := by simp [step, h, hr, blockStep, ho, hd]

theorem runs_zero (s : State) : runs 0 s = .next s := rfl

/-- A run goes on from where its first step leads. -/
theorem runs_succ (n : Nat) (s t : State) (h : step s = .next t) : runs (n + 1) s = runs n t := by
  have hc : Sys2Proof.core.step s = .next t := h
  change Sys2Proof.core.run (n + 1) s = Sys2Proof.core.run n t
  simp only [Host.Core.run, hc]

/-- Runs compose. -/
theorem runs_add (m n : Nat) (s t : State) (h : runs m s = .next t) : runs (m + n) s = runs n t := by
  induction m generalizing s with
  | zero =>
    cases h
    rw [Nat.zero_add]
  | succ m ih =>
    cases hs : step s with
    | next u =>
      rw [runs_succ m s u hs] at h
      rw [Nat.add_right_comm, runs_succ _ s u hs]
      exact ih u h
    | fault r =>
      have hc : Sys2Proof.core.step s = .fault r := hs
      change Sys2Proof.core.run (m + 1) s = _ at h
      simp only [Host.Core.run, hc] at h
      cases h
    | refused r =>
      have hc : Sys2Proof.core.step s = .refused r := hs
      change Sys2Proof.core.run (m + 1) s = _ at h
      simp only [Host.Core.run, hc] at h
      cases h

end Sys2Proof.Machine
end

