-- ==== Sys2Proof/Tests/Slice0.lean ====
section
/-! SUPPORT. Tests: well-formedness, decoding of written-out words, one step of each request against the vectors of
spec/95_test_vectors.md, and for every statement with hypotheses a state and operands that meet them. -/

namespace Sys2Proof.Tests

open Sys2Proof Sys2Proof.Machine

/-! ### States to test on -/

/-- A block in the given mode, right after reset. -/
def block (strict : Bool) : State := State.resetWith { Config.default with strict := strict }

/-- The block with one request at it. -/
def asked (strict : Bool) (r : Request) : State := { block strict with requests := [r] }

/-- The outcome a step leaves to be taken. -/
def outcomeOf : Host.Outcome State Fault Refusal → Option OpOutcome
  | .next s => s.result
  | .fault _ => none
  | .refused _ => none

/-- The command kind an outcome is about. -/
def kindIn : Option OpOutcome → Option CommandKind
  | some (.ok (.response k _)) => some k
  | _ => none

/-- Why a step is refused. -/
def refusalIn : Host.Outcome State Fault Refusal → Option Refusal
  | .next _ => none
  | .fault _ => none
  | .refused r => some r

/-- A driver in a session over 129 bytes, of which `offset` are acknowledged. -/
def driving (c : Config) (phase : Phase) (act : Act) (offset : Word) : State :=
  { State.resetWith c with
    driver := { Driver.reset with
      phase := phase, act := act, offset := offset, source := ⟨129, List.replicate 129 0x2A⟩ } }

/-- That driver with an outcome to take. -/
def answeredBy (s : State) (o : OpOutcome) : State := { s with result := some o }

/-- That driver with these reads and writes to come; the reads after the listed ones go round the cycle. -/
def linked (s : State) (reads cycle : List ReadResult) (writes : List WriteResult) : State :=
  { s with transport := ⟨[], reads, .cycle cycle, 0, writes⟩ }

/-- A driver that may retry a chunk once, gives up on what does not parse, and bounds its waits. -/
def hardened : Config := { Config.default with retryMax := 1, onMalformed := .abort, waitBound := some 3 }

/-! ### Well-formedness (R113, R116, R21, R8) -/

theorem test_wf_chunk_of_128 : (Instr.buildData (List.replicate 128 0) 128).wf = true := by decide +kernel
theorem test_wf_refuses_chunk_of_129 : (Instr.buildData (List.replicate 129 0) 129).wf = false := by decide +kernel
theorem test_wf_refuses_short_chunk : (Instr.buildData [0xAA] 2).wf = false := by decide
theorem test_wf_refuses_nack_zero : (AckStatus.nack 0).wf = false := by decide
theorem test_wf_refuses_error_code_zero :
    ({ Config.default with errorTable := [(0, .firmwareTooLarge)] } : Config).wf = false := by decide

/-! ### Decoding (R67 to R71, R75, R80) -/

theorem test_decode_checksum : decodeTableWord 8 0x0 = some (.checksum []) := by decide
theorem test_decode_build_start : decodeTableWord 8 0x1 = some .buildStart := by decide
theorem test_decode_build_info : decodeTableWord 8 0x2 = some (.buildInfo ⟨0, 0, 0, 0⟩) := by decide
theorem test_decode_build_data : decodeTableWord 32 0x2A030000 = some (.buildData [] 0) := by decide
theorem test_decode_build_stop : decodeTableWord 8 0x4 = some .buildStop := by decide
theorem test_decode_parse : decodeTableWord 8 0x5 = some (.parseResponse []) := by decide
theorem test_decode_info_packet : decodeTableWord 32 0x2A020900 = some (.buildInfo ⟨0, 0, 0, 0⟩) := by decide
theorem test_decode_rsp_start : decodeTableWord 32 0x2A010100 = some (.rspStart ⟨0x2A, 1, 0, 0, 0, 0, 0⟩) := by decide
theorem test_decode_rsp_info : decodeTableWord 32 0x2A020100 = some (.rspInfo ⟨0x2A, 1, 0, 0, 0, 0, 0⟩) := by decide
theorem test_decode_rsp_data : decodeTableWord 32 0x2A030100 = some (.rspData ⟨0x2A, 1, 0, 0, 0, 0, 0⟩) := by decide
theorem test_decode_rsp_stop : decodeTableWord 32 0x2A040100 = some (.rspStop ⟨0x2A, 1, 0, 0, 0, 0, 0⟩) := by decide
theorem test_decode_refuses_reserved : decodeTableWord 8 0x6 = none ∧ decodeTableWord 8 0xF = none := by decide
theorem test_decode_refuses_command_5 : decodeTableWord 32 0x2A050100 = none := by decide

/-- No header belongs to two rows of one decode space (R80). -/
theorem test_rows_disjoint :
    (commandRows.Pairwise fun a b => a.value &&& b.mask ≠ b.value &&& a.mask) ∧
      (responseRows.Pairwise fun a b => a.value &&& b.mask ≠ b.value &&& a.mask) ∧
      lenientRows.Pairwise fun a b => a.value &&& b.mask ≠ b.value &&& a.mask := by decide

/-- The printed table is the one the spec's procedure generates (R93). -/
theorem test_table_is_generated : ∀ i : Byte, crcGenerated i = tableRead defaultCrcTable i := by
  decide +kernel

/-! ### One step of each request (spec/95_test_vectors.md sections 1, 3, 4) -/

theorem test_checksum_four : outcomeOf (exec (.checksum [0x01, 0x01, 0x00, 0x01]) (block false)) =
    some (.ok (.checksum 0xD565)) := by decide
theorem test_checksum_empty : outcomeOf (step (asked false ⟨.operation, [0x00]⟩)) = some (.ok (.checksum 0xFFFF)) := by
  decide
theorem test_build_start : outcomeOf (step (asked false ⟨.operation, [0x01]⟩)) =
    some (.ok (.packet [0x2A, 0x01, 0x01, 0x00, 0x01, 0x65, 0xD5, 0x23])) := by decide
theorem test_build_info : outcomeOf (exec (.buildInfo ⟨0x12345678, 0xAB, 0xBEEF, 0xCAFE⟩) (block false)) =
    some (.ok (.packet
      [0x2A, 0x02, 0x09, 0x00, 0x78, 0x56, 0x34, 0x12, 0xAB, 0xEF, 0xBE, 0xFE, 0xCA, 0x79, 0x03, 0x23])) := by decide
theorem test_build_data_markers : outcomeOf (exec (.buildData [0x2A, 0x23, 0xFF] 2) (block false)) =
    some (.ok (.packet [0x2A, 0x03, 0x02, 0x00, 0x2A, 0x23, 0x9A, 0xEF, 0x23])) := by decide
theorem test_build_data_empty : outcomeOf (exec (.buildData [] 0) (block false)) =
    some (.ok (.packet [0x2A, 0x03, 0x00, 0x00, 0xCC, 0x95, 0x23])) := by decide
theorem test_build_stop : outcomeOf (step (asked false ⟨.operation, [0x04]⟩)) =
    some (.ok (.packet [0x2A, 0x04, 0x01, 0x00, 0x01, 0x20, 0x69, 0x23])) := by decide
theorem test_rsp_start_is_a_looped_back_command :
    outcomeOf (step (asked true ⟨.responsePacket, [0x2A, 0x01, 0x01, 0x00, 0x01, 0x65, 0xD5, 0x23]⟩)) =
      some (.ok (.response .start (.nack 1))) := by decide
theorem test_rsp_info_ack :
    outcomeOf (step (asked true ⟨.responsePacket, [0x2A, 0x02, 0x01, 0x00, 0x00, 0x98, 0x5E, 0x23]⟩)) =
      some (.ok (.response .info .ack)) := by decide
theorem test_rsp_data_lenient_takes_damage :
    outcomeOf (step (asked false ⟨.responsePacket, [0x00, 0x03, 0xFF, 0xFF, 0x00, 0x00, 0x00, 0x00]⟩)) =
      some (.ok (.response .firmwareData .ack)) := by decide
theorem test_rsp_data_strict_finds_checksum :
    outcomeOf (step (asked true ⟨.responsePacket, [0x2A, 0x03, 0x01, 0x00, 0x00, 0x2C, 0x29, 0x23]⟩)) =
      some (.error .checksumMismatch) := by decide
theorem test_rsp_stop_nack :
    outcomeOf (step (asked true ⟨.responsePacket, [0x2A, 0x04, 0x01, 0x00, 0x02, 0x43, 0x59, 0x23]⟩)) =
      some (.ok (.response .stop (.nack 2))) := by decide
theorem test_parse_bad_command_is_malformed :
    outcomeOf (exec (.parseResponse [0x2A, 0x05, 0x01, 0x00, 0x00, 0x00, 0x00, 0x23]) (block true)) =
      some (.error .malformed) := by decide
theorem test_parse_ignores_surplus :
    outcomeOf (exec (.parseResponse [0x2A, 0x03, 0x01, 0x00, 0x00, 0x2C, 0x28, 0x23, 0xFF, 0xFF]) (block true)) =
      some (.ok (.response .firmwareData .ack)) := by decide
theorem test_overlap_is_refused :
    refusalIn (step { block false with requests := [⟨.operation, [0x01]⟩, ⟨.operation, [0x04]⟩] }) =
      some .overlappingRequest := by decide

/-! ### Driver and memory -/

/-- The last chunk of 129 bytes is one byte long (section 5). -/
theorem test_last_chunk_is_one_byte : (driving Config.default .sendingData .build 128).driver.chunk = [0x2A] := by decide
/-- A device that says one thing for ever says it again (R222). -/
theorem test_cycle_goes_round :
    let t : Transport := ⟨[], [], .cycle [.bytes [0x2A], .bytes []], 0, []⟩
    t.nextRead.1 = .bytes [0x2A] ∧ t.nextRead.2.later = .cycle [.bytes [], .bytes [0x2A]] := by decide
theorem test_reset_memory_wf :
    Memory.wf (Memory.cells State.reset.spaces.input) = true ∧ Memory.wf (Memory.cells State.reset.spaces.out) = true ∧
      Memory.wf (Memory.cells State.reset.spaces.raw) = true := by decide
theorem test_memory_wf_refuses_repeats : Memory.wf [(0, 0x2A), (0, 0x23)] = false := by decide

/-! ### A state and operands that meet the hypotheses of each statement -/

/-- An eight-byte response with this command byte and status, its checksum right. -/
def goodResponse (command status : Byte) : List Byte := frame defaultCrcTable command [status]

theorem witness_StepRunsTheDecodedRequest :
    let s := asked false ⟨.operation, [0x01]⟩
    s.resetPending = false ∧ s.requests = [⟨.operation, [0x01]⟩] ∧ s.result = none ∧
      decode ⟨.operation, [0x01]⟩ = .ok .buildStart := ⟨rfl, rfl, rfl, rfl⟩

theorem witness_FetchWordIsRunNext :
    decodeTableWord 8 0x1 = some .buildStart ∧ decodeTableWord 32 0x2A030000 = some (.buildData [] 0) := by decide

theorem witness_BuiltPacketDecodesToItsBuilder :
    (∀ i ∈ [Instr.buildStart, .buildInfo ⟨0, 0, 0, 0⟩, .buildData [] 0, .buildData (List.replicate 128 0) 128, .buildStop],
      i.isBuilder = true ∧ i.wf = true) ∧ (block false).tableReady = true := by decide +kernel

theorem witness_RequestsWithoutMeaning_chunk :
    (128 < (129 : Half).toNat ∨ (List.replicate 129 (0 : Byte)).length < (129 : Half).toNat) ∧
      (128 < (1 : Half).toNat ∨ ([] : List Byte).length < (1 : Half).toNat) := by decide +kernel

theorem witness_RequestsWithoutMeaning_opsel :
    ∀ sel ∈ [(6 : Byte), 15], 6 ≤ sel.toNat ∧ sel.toNat ≤ 15 ∧ (asked false ⟨.operation, [sel]⟩).resetPending = false ∧
      (asked false ⟨.operation, [sel]⟩).result = none ∧
      (asked false ⟨.operation, [sel]⟩).requests = [⟨.operation, sel :: []⟩] := by decide

theorem witness_RequestsWithoutMeaning_overlap :
    let two : State := { block false with requests := [⟨.operation, [0x01]⟩, ⟨.operation, [0x04]⟩] }
    let untaken : State := answeredBy (asked false ⟨.operation, [0x01]⟩) (.error .malformed)
    (two.resetPending = false ∧ two.requests = ⟨.operation, [0x01]⟩ :: [⟨.operation, [0x04]⟩] ∧
      ([⟨.operation, [0x04]⟩] ≠ ([] : List Request) ∨ two.result ≠ none)) ∧
    untaken.resetPending = false ∧ untaken.requests = ⟨.operation, [0x01]⟩ :: [] ∧
      (([] : List Request) ≠ [] ∨ untaken.result ≠ none) := by decide

theorem witness_EveryOperationEndsInOneOutcome :
    (Instr.buildData [0xAA] 1).wf = true ∧ (Instr.parseResponse []).wf = true ∧ (block true).tableReady = true := by decide

theorem witness_ResultDependsOnOperandsTableAndStrict :
    let s := block true
    let s' := answeredBy (driving { Config.default with strict := true } .sendingData .awaitPacket 128) (.error .malformed)
    s.config.crcTable = s'.config.crcTable ∧ s.config.strict = s'.config.strict ∧ s.tableReady = s'.tableReady ∧
      (∃ t, exec .buildStart s = .next t) ∧ ∃ r, exec (.buildData [] 1) s = .refused r :=
  ⟨rfl, rfl, rfl, ⟨_, buildPacket_ready (block true) CMD_START [START_PAYLOAD] rfl⟩, ⟨_, rfl⟩⟩

theorem witness_OperationsLeaveTheRest : ∃ t, exec (.checksum [0x2A]) (block false) = .next t :=
  ⟨_, execChecksum_ready _ _ rfl⟩

theorem witness_StepsNeverWriteTheTable : ∃ t, step (asked false ⟨.operation, [0x04]⟩) = .next t :=
  ⟨_, (step_block _ _ .buildStop rfl rfl rfl rfl).trans
    (buildPacket_ready (asked false ⟨.operation, [0x04]⟩) CMD_STOP [STOP_PAYLOAD] rfl)⟩

theorem witness_NoChecksumBeforeTheTableIsValid :
    let early (strict : Bool) : State := { block strict with tableReady := false }
    (early false).tableReady = false ∧ Instr.buildStart.wf = true ∧ Instr.buildStart.isParse = false ∧
      (Instr.parseResponse []).wf = true ∧ (Instr.parseResponse []).isParse = true ∧
      (early true).config.strict = true ∧ (early false).config.strict = false := by decide

theorem witness_ResetAbandonsTheOperation :
    ({ asked false ⟨.operation, [0x01]⟩ with resetPending := true } : State).resetPending = true := rfl

theorem witness_ChecksumFoldsTheStep : (block false).tableReady = true := rfl

theorem witness_MaskingOnceAtTheEndIsTheSame :
    (block false).tableReady = true ∧ ∃ entry : Byte → Nat, entry 0 = 0x10000 ∧
      ∀ i : Byte, tableRead (block false).config.crcTable i = BitVec.ofNat 16 (entry i) :=
  ⟨rfl, fun i => (tableRead defaultCrcTable i).toNat + 0x10000, by decide, fun i => by
    apply BitVec.eq_of_toNat_eq
    have := (tableRead defaultCrcTable i).isLt
    simp [block, State.resetWith, Config.default]
    omega⟩

theorem witness_ChecksumOfOneByteAndExtension :
    (block false).tableReady = true ∧ ∃ t, exec (.checksum []) (block false) = .next t ∧
      t.result = some (.ok (.checksum 0xFFFF)) := ⟨rfl, _, execChecksum_ready [] (block false) rfl, rfl⟩

theorem witness_StartAndStopPackets_and_InfoPacket : (block true).tableReady = true := rfl

theorem witness_DataPacket :
    (block false).tableReady = true ∧ (0 : Half).toNat ≤ 128 ∧ (0 : Half).toNat ≤ ([] : List Byte).length ∧
      (128 : Half).toNat ≤ 128 ∧ (128 : Half).toNat ≤ (List.replicate 129 (0 : Byte)).length := by decide +kernel

theorem witness_BuiltPacketInvariants :
    (Instr.buildData [0xAA, 0xBB] 1).wf = true ∧ (block false).tableReady = true ∧
      (Instr.buildData [0xAA, 0xBB] 1).framed = some (0x03, [0xAA]) ∧ Instr.buildStop.framed = some (0x04, [0x01]) := by
  decide

theorem witness_FramingByteByByteFillsOut :
    ([] : List Byte).length ≤ 128 ∧ (List.replicate 128 (0xFF : Byte)).length ≤ 128 := by simp

theorem witness_ShortResponseIsMalformed :
    ParseReady (block false) ∧ ParseReady (block true) ∧ ([] : List Byte).length < 8 ∧
      (List.replicate 7 (0x2A : Byte)).length < 8 := ⟨fun _ => rfl, fun _ => rfl, by decide, by decide⟩

theorem witness_LenientReadsTwoBytes :
    (block false).config.strict = false ∧ (0x04 : Byte) = CommandKind.stop.code ∧ ¬ definedCode 0x00 ∧ ¬ definedCode 0x05 := by
  unfold definedCode
  decide

/-- One input for each branch: bad end marker, command code 5, wrong checksum, and a response with all checks passed. -/
theorem witness_StrictChecksInOrder :
    let t := (block true).config.crcTable
    (block true).config.strict = true ∧ (block true).tableReady = true ∧
    ¬ ((0x2A : Byte) = 0x2A ∧ ((0x01 : Byte) = 0x01 ∧ (0x00 : Byte) = 0x00) ∧ (0x24 : Byte) = 0x23) ∧
    ((0x2A : Byte) = 0x2A ∧ ((0x01 : Byte) = 0x01 ∧ (0x00 : Byte) = 0x00) ∧ (0x23 : Byte) = 0x23) ∧
    ¬ definedCode 0x05 ∧ definedCode 0x03 ∧ (0x03 : Byte) = CommandKind.firmwareData.code ∧
    ¬ fromLe16 0x2D 0x28 = checksum t [0x03, 0x01, 0x00, 0x00] ∧ fromLe16 0x2C 0x28 = checksum t [0x03, 0x01, 0x00, 0x00] := by
  unfold definedCode
  decide

theorem witness_StatusByteIsTheNackCode :
    (goodResponse 0x03 0xFF)[4]? = some 0xFF ∧ ∃ t, exec (.parseResponse (goodResponse 0x03 0xFF)) (block true) = .next t ∧
      t.result = some (.ok (.response .firmwareData (.nack 0xFF))) :=
  ⟨by decide, _, interpretRaw_ready (goodResponse 0x03 0xFF) (block true) fun _ => rfl, by decide⟩

theorem witness_SurplusBytesAreIgnored : 8 ≤ (goodResponse 0x01 0x00).length := by decide

theorem witness_ResponseRoundTrip : ParseReady (block false) ∧ ParseReady (block true) := ⟨fun _ => rfl, fun _ => rfl⟩

theorem witness_UndefinedCommandCodes :
    ParseReady (block true) ∧ ([0x2A, 0x00] : List Byte)[1]? = some 0x00 ∧ ¬ definedCode 0x00 ∧
      ∃ t, exec .buildStop (block true) = .next t ∧ ∃ p, t.result = some (.ok (.packet p)) :=
  ⟨fun _ => rfl, rfl, by unfold definedCode; decide, _, buildPacket_ready (block true) CMD_STOP [STOP_PAYLOAD] rfl, _, rfl⟩

theorem witness_CausesOfTheErrorOutcomes : ParseReady { block false with tableReady := false } := fun h => by cases h

/-- Lenient; strict with a right, a broken and a damaged response (R133, R134). -/
theorem witness_ResponseRowsComplete :
    ParseReady (block true) ∧ (block false).config.strict = false ∧ (block true).config.strict = true ∧
    (let f : RspFields := ⟨0x2A, 0x01, 0x00, 0x00, 0x44, 0xC5, 0x23⟩
     (f.startMark = 0x2A ∧ (f.lenLow = 0x01 ∧ f.lenHigh = 0x00) ∧ f.endMark = 0x23) ∧
       fromLe16 f.crcLow f.crcHigh = checksum (block true).config.crcTable [0x01, f.lenLow, f.lenHigh, f.status] ∧
       ¬ fromLe16 f.crcLow f.crcHigh = checksum (block true).config.crcTable [0x02, f.lenLow, f.lenHigh, f.status]) ∧
    ¬ (0x2B : Byte) = 0x2A := ⟨fun _ => rfl, by decide⟩

theorem witness_SessionStartsWithStart :
    let s := driving Config.default .idle .build 0
    s.quiet ∧ s.driver.phase = .idle ∧ s.driver.act = .build ∧ s.writeSucceeds ∧
      (linked s [] [] [.done, .failed 0]).writeSucceeds :=
  ⟨⟨rfl, rfl, rfl, rfl⟩, rfl, rfl, .inl rfl, .inr ⟨_, rfl⟩⟩

theorem witness_EveryReadIsParsedOnItsOwn :
    let s := driving Config.default .awaitingStartAck .listen 0
    s.quiet ∧ s.driver.act = .listen ∧ s.transport.reads = [] ∧ s.transport.later = .free ∧
      (linked s [.bytes []] [] []).transport.reads = .bytes [] :: [] ∧ (linked s [] [] []).transport.later = .cycle [] ∧
      (linked s [] [.bytes [0x2A]] []).transport.later = .cycle (.bytes [0x2A] :: []) :=
  ⟨⟨rfl, rfl, rfl, rfl⟩, rfl, rfl, rfl, rfl, rfl, rfl⟩

theorem witness_UnawaitedResponsesAreIgnored :
    let s := driving Config.default .awaitingInfoAck .awaitParse 0
    (answeredBy s (.error .malformed)).answered (.error .malformed) ∧ s.driver.act = .awaitParse ∧
      s.config.waitBound = none ∧ s.config.onMalformed = .retry ∧ s.driver.phase.awaited ≠ some .start ∧
      (let h := answeredBy (driving hardened .awaitingInfoAck .awaitParse 0) (.error .malformed)
       h.answered (.error .malformed) ∧ h.driver.act = .awaitParse ∧ h.config.onMalformed = .abort ∧
         h.config.waitBound = some 3) :=
  ⟨⟨rfl, rfl, rfl, rfl⟩, rfl, rfl, rfl, by decide, ⟨rfl, rfl, rfl, rfl⟩, rfl, rfl, rfl⟩

theorem witness_StartAcknowledged :
    let s := driving Config.default .awaitingStartAck .awaitParse 0
    s.driver.phase = .awaitingStartAck ∧ s.driver.act = .awaitParse ∧ s.writeSucceeds ∧
      (linked s [] [] [.done]).writeSucceeds ∧
      (answeredBy s (.ok (.response .start .ack))).answered (.ok (.response .start .ack)) ∧
      (answeredBy s (.ok (.response .start (.nack 1)))).answered (.ok (.response .start (.nack 1))) :=
  ⟨rfl, rfl, .inl rfl, .inr ⟨_, rfl⟩, ⟨rfl, rfl, rfl, rfl⟩, rfl, rfl, rfl, rfl⟩

theorem witness_InfoAcknowledged :
    let s := driving Config.default .awaitingInfoAck .awaitParse 0
    s.driver.phase = .awaitingInfoAck ∧ s.driver.act = .awaitParse ∧
      (answeredBy s (.ok (.response .info .ack))).answered (.ok (.response .info .ack)) ∧
      (answeredBy s (.ok (.response .info (.nack 255)))).answered (.ok (.response .info (.nack 255))) :=
  ⟨rfl, rfl, ⟨rfl, rfl, rfl, rfl⟩, rfl, rfl, rfl, rfl⟩

/-- At 129 of 129 bytes no chunk is left; at 128 there is one, of one byte; at 0 one of 128. -/
theorem witness_ChunkSent :
    let s := driving Config.default .sendingData .build
    (s 129).quiet ∧ (s 129).driver.phase = .sendingData ∧ (s 129).driver.act = .build ∧
      (s 129).driver.offset = (s 129).driver.source.size ∧
      (s 128).driver.offset.toNat < (s 128).driver.source.size.toNat ∧
      (s 0).driver.offset.toNat < (s 0).driver.source.size.toNat ∧ (s 0).driver.source.wf = true ∧
      (s 0).transport.writes = [] ∧ (linked (s 0) [] [] [.done, .done]).transport.writes = .done :: [.done] :=
  ⟨⟨rfl, rfl, rfl, rfl⟩, by decide +kernel⟩

theorem witness_ChunkAcknowledged_and_Progress :
    let s := answeredBy (driving Config.default .awaitingDataAck .awaitParse 128) (.ok (.response .firmwareData .ack))
    s.driver.phase = .awaitingDataAck ∧ s.driver.act = .awaitParse ∧ s.answered (.ok (.response .firmwareData .ack)) ∧
      s.driver.offset.toNat < s.driver.source.size.toNat := ⟨rfl, rfl, ⟨rfl, rfl, rfl, rfl⟩, by decide⟩

theorem witness_ChunkRefused :
    let s c := answeredBy (driving c .awaitingDataAck .awaitParse 128) (.ok (.response .firmwareData (.nack 2)))
    (s Config.default).driver.phase = .awaitingDataAck ∧ (s Config.default).driver.act = .awaitParse ∧
      (s Config.default).answered (.ok (.response .firmwareData (.nack 2))) ∧
      (s Config.default).config.retryMax ≤ (s Config.default).driver.retries ∧
      (s hardened).answered (.ok (.response .firmwareData (.nack 2))) ∧
      (s hardened).driver.retries < (s hardened).config.retryMax :=
  ⟨rfl, rfl, ⟨rfl, rfl, rfl, rfl⟩, by decide, ⟨rfl, rfl, rfl, rfl⟩, by decide⟩

theorem witness_StopIsNotAwaited :
    let s := driving Config.default .awaitingStopAck .build 129
    s.quiet ∧ s.driver.phase = .awaitingStopAck ∧ s.driver.act = .build ∧ s.writeSucceeds ∧
      (linked s [] [] [.done]).writeSucceeds := ⟨⟨rfl, rfl, rfl, rfl⟩, rfl, rfl, .inl rfl, .inr ⟨_, rfl⟩⟩

theorem witness_TransportFailureAborts :
    let r := linked (driving Config.default .awaitingInfoAck .listen 0) [.failed] [] []
    let c := linked (driving Config.default .awaitingInfoAck .listen 0) [] [.failed] []
    let w := linked (answeredBy (driving Config.default .sendingData .awaitPacket 0) (.ok (.packet [0x2A]))) [] [] [.failed 0]
    (r.quiet ∧ r.driver.act = .listen ∧ r.transport.reads = .failed :: []) ∧
      (c.quiet ∧ c.driver.act = .listen ∧ c.transport.reads = [] ∧ c.transport.later = .cycle (.failed :: [])) ∧
      w.answered (.ok (.packet [0x2A])) ∧ w.driver.act = .awaitPacket ∧ w.transport.writes = .failed 0 :: [] :=
  ⟨⟨⟨rfl, rfl, rfl, rfl⟩, rfl, rfl⟩, ⟨⟨rfl, rfl, rfl, rfl⟩, rfl, rfl, rfl⟩, ⟨rfl, rfl, rfl, rfl⟩, rfl, rfl⟩

theorem witness_BoundedWaitEndsInTimeout :
    let c : Config := { Config.default with waitBound := some 3 }
    let s := driving c .awaitingStartAck .awaitParse 0
    (answeredBy s (.error .malformed)).answered (.error .malformed) ∧ s.driver.act = .awaitParse ∧
      s.config.waitBound = some 3 ∧ s.config.onMalformed = .retry ∧ s.driver.phase.awaited ≠ some .stop ∧
      ∃ t, (driving Config.default (.aborted .timeout) .rest 0).config.waitBound = none ∧
        step (driving Config.default (.aborted .timeout) .rest 0) = .next t ∧ t.driver.phase = .aborted .timeout :=
  ⟨⟨rfl, rfl, rfl, rfl⟩, rfl, rfl, rfl, by decide, _, rfl, rfl, rfl⟩

theorem witness_SessionResultKeepsTheRawCode :
    (driving Config.default (.aborted (.nack 2)) .rest 128).driver.phase = .aborted (.nack 2) ∧
      (∀ code, AbortReason.timeout ≠ .nack code) ∧
      (driving Config.default (.aborted .timeout) .rest 0).driver.phase = .aborted .timeout :=
  ⟨rfl, fun _ h => (by cases h), rfl⟩

theorem witness_OnlyTheAwaitedResponseEndsTheWait :
    let s := answeredBy (driving Config.default .awaitingInfoAck .awaitParse 0) (.ok (.response .info .ack))
    (s.driver.act = .listen ∨ s.driver.act = .awaitParse) ∧ ∃ t, step s = .next t ∧ t.driver.act = .build :=
  ⟨.inr rfl, _, rfl, rfl⟩

/-- A driver that has acknowledged all 129 bytes and holds its STOP packet: it meets the invariant and completes. -/
theorem witness_CompletedMeansEveryByteAcknowledged :
    let s := answeredBy (driving Config.default .awaitingStopAck .awaitPacket 129) (.ok (.packet [0x2A]))
    s.Inv ∧ s.driver.phase ≠ .completed ∧ ∃ t, step s = .next t ∧ t.driver.phase = .completed := by
  refine ⟨⟨rfl, rfl, rfl, .inr (.inr ⟨_, rfl, rfl, rfl⟩), ?_, ⟨Nat.le_refl _, ?_, fun _ => rfl⟩, ?_, by decide +kernel,
    Nat.le_refl _, ?_, ?_, fun h => by cases h⟩, by decide, _, rfl, rfl⟩
  · intro o h
    cases h
    rfl
  · rintro (h | h) <;> simp [answeredBy, driving] at h
  · intro c h
    cases h
  · intro p h
    cases h
  · intro k h
    cases h

theorem witness_TerminalStatesSendNothing :
    let s : State := { State.reset with driver := { Driver.reset with
      phase := .completed, act := .rest, tasks := [.request ⟨.operation, [0x01]⟩] } }
    s.driver.act = .rest ∧ (s.driver.phase = .completed ∨ ∃ r, s.driver.phase = .aborted r) ∧
      (∀ k ∈ s.driver.tasks, ∃ r, k = .request r) ∧ ∃ t, runs 1 s = .next t := by
  refine ⟨rfl, .inl rfl, ?_, _, runs_succ 0 _ _ rfl⟩
  intro k h
  rw [List.mem_singleton.mp h]
  exact ⟨_, rfl⟩

theorem witness_SilentDeviceWaitsForEver :
    let s := linked (driving Config.default .awaitingDataAck .listen 0) [] [] []
    s.quiet ∧ s.driver.act = .listen ∧ s.transport.reads = [] ∧ s.transport.later = .cycle [] ∧
      s.config.onMalformed = .retry ∧ s.config.waitBound = none := ⟨⟨rfl, rfl, rfl, rfl⟩, rfl, rfl, rfl, rfl, rfl⟩

/-- Right after reset the invariant holds and a step goes on: also the witness of `DriverKeepsTheContract`. -/
theorem witness_StepsKeepTheInvariant : State.reset.Inv ∧ ∃ t, step State.reset = .next t := by
  refine ⟨⟨rfl, rfl, rfl, .inl ⟨rfl, rfl⟩, ?_, ⟨Nat.le_refl _, ?_, fun _ => rfl⟩, ?_, rfl, Nat.le_refl _, ?_, ?_,
    fun h => by cases h⟩, _, rfl⟩
  · intro o h
    cases h
  · rintro (h | h) <;> simp [State.reset, State.resetWith, Driver.reset] at h
  · intro c h
    cases h
  · intro p h
    cases h
  · intro k h
    cases h

/-- An empty image, and one of a byte, each with the Acks it takes. -/
theorem witness_AllAckSessionCompletes :
    ∀ bytes ∈ [[], [(0x2A : Byte)]],
      let src : FirmwareSource := ⟨BitVec.ofNat 32 bytes.length, bytes⟩
      let s : State := { State.reset with
        driver := { Driver.reset with tasks := [.session src ⟨0, 0, 0xFFFF, 0⟩] }
        transport := ⟨[], ackReads defaultCrcTable (chunkCount bytes.length), .cycle [], 0, [.done, .done]⟩ }
      s.resetPending = false ∧ s.requests = [] ∧ s.result = none ∧ s.tableReady = true ∧ s.driver.act = .rest ∧
        s.driver.tasks = [.session src ⟨0, 0, 0xFFFF, 0⟩] ∧ src.wf = true ∧ (∀ w ∈ s.transport.writes, w = .done) ∧
        s.transport.reads = ackReads s.config.crcTable (chunkCount src.bytes.length) := by
  intro bytes h
  refine ⟨rfl, rfl, rfl, rfl, rfl, rfl, ?_, ?_, rfl⟩
  · revert bytes
    decide
  · intro w hw
    simpa using hw

theorem witness_RestingDriverTakesItsTasks :
    let s (tasks : List Task) : State := { State.reset with driver := { Driver.reset with tasks := tasks } }
    let r : Request := ⟨.operation, [0x01]⟩
    let session : Task := .session ⟨0, []⟩ ⟨0, 0, 0, 0⟩
    (s []).driver.act = .rest ∧ (s []).quiet ∧ (s []).driver.tasks = [] ∧ (s [.request r]).driver.tasks = .request r :: [] ∧
      (s [session]).driver.tasks = session :: [] ∧ (answeredBy (s []) (.error .malformed)).answered (.error .malformed) :=
  ⟨rfl, ⟨rfl, rfl, rfl, rfl⟩, rfl, rfl, rfl, rfl, rfl, rfl, rfl⟩

theorem witness_DirectRequestIsAnsweredAndTaken :
    let r : Request := ⟨.operation, [0x03, 0x01, 0x00, 0xAA]⟩
    let s : State := { State.reset with driver := { Driver.reset with tasks := [.request r] } }
    s.quiet ∧ s.driver.act = .rest ∧ s.driver.tasks = .request r :: [] ∧ decode r = .ok (.buildData [0xAA] 1) ∧
      (Instr.buildData [0xAA] 1).wf = true := ⟨⟨rfl, rfl, rfl, rfl⟩, rfl, rfl, rfl, rfl⟩

/-- A driver that awaits the response to a chunk, and a device that repeats its response to START for ever. -/
theorem witness_UnhelpfulDeviceWaitsForEver :
    let s := linked (driving Config.default .awaitingDataAck .listen 0) [.bytes []] [.bytes (goodResponse 0x01 0x00)] []
    s.quiet ∧ s.driver.act = .listen ∧ s.config.onMalformed = .retry ∧ s.config.waitBound = none ∧ s.deviceUnhelpful := by
  refine ⟨⟨rfl, rfl, rfl, rfl⟩, rfl, rfl, rfl, fun r h => ?_, fun r h => ?_⟩
  all_goals
    rw [List.mem_singleton.mp h]
    refine ⟨_, rfl, fun k status t hk he hr => ?_⟩
    cases hk
    rw [exec_parseResponse_ready _ _ fun _ => rfl] at he
    cases he
    exact (show kindIn _ ≠ some .firmwareData by decide) (congrArg kindIn hr)

/-- A short read and a whole response in a session, and a direct parse of a looped-back packet. -/
theorem witness_DriverStillHoldsTheRawBytes :
    let s (reads : List ReadResult) := linked (driving Config.default .awaitingDataAck .listen 0) reads [] []
    let r : Request := ⟨.responsePacket, [0x2A, 0x01, 0x01, 0x00, 0x01, 0x65, 0xD5, 0x23]⟩
    let d : State := { State.reset with driver := { Driver.reset with tasks := [.request r] } }
    (∀ raw ∈ [[], goodResponse 0x03 0x00],
      (s [.bytes raw]).quiet ∧ (s [.bytes raw]).driver.act = .listen ∧
        (s [.bytes raw]).transport.nextRead.1 = .bytes raw) ∧
      d.quiet ∧ d.driver.act = .rest ∧ d.driver.tasks = .request r :: [] ∧ requestRaw r = some r.bytes :=
  ⟨fun _ _ => ⟨⟨rfl, rfl, rfl, rfl⟩, rfl, rfl⟩, ⟨rfl, rfl, rfl, rfl⟩, rfl, rfl, by decide⟩

/-- A strict parse works on `rlen` and `crc` before it finds the framing broken (R29, R133). -/
theorem test_strict_parse_loads_rlen :
    let s := ((block true).beginParse [0x2A, 0x01, 0x02, 0x01, 0x00, 0x44, 0xC5, 0x23]).copyResponse 0x01
      ⟨0x2A, 0x02, 0x01, 0x00, 0x44, 0xC5, 0x23⟩
    s.regs.rlen = 0x0102 ∧ s.regs.rcrc = 0xC544 ∧ s.regs.crc = 0xFFFF ∧ s.regs.cnt = 8 := by decide

end Sys2Proof.Tests
end

section
/-! PROOF. Every request, whatever it is, gets an answer that is a function of its operands, of `CRC_TABLE`, of `STRICT` and of
the table-initialised bit (spec/10_state.md R20): `exec_eq_respond`. What an operation depends on and what it leaves alone
both follow from that one equation. -/

namespace Sys2Proof.Machine

open Sys2Proof

/-- The requests that read `CRC_TABLE`: all but a lenient parse (R213). -/
def readsTable (strict : Bool) (i : Instr) : Bool := strict || !i.isParse

/-- The outcome of a request that completes (R90, R111 to R114, R130). -/
def outcomeOf (t : CrcTable) (strict : Bool) : Instr → OpOutcome
  | .checksum input => .ok (.checksum (checksum t input))
  | .buildStart => .ok (.packet (frame t CMD_START [START_PAYLOAD]))
  | .buildInfo md => .ok (.packet (frame t CMD_INFO (infoPayload md)))
  | .buildData input n => .ok (.packet (frame t CMD_DATA (input.take n.toNat)))
  | .buildStop => .ok (.packet (frame t CMD_STOP [STOP_PAYLOAD]))
  | .rspStart f => parseOutcome t strict (f.raw CMD_START)
  | .rspInfo f => parseOutcome t strict (f.raw CMD_INFO)
  | .rspData f => parseOutcome t strict (f.raw CMD_DATA)
  | .rspStop f => parseOutcome t strict (f.raw CMD_STOP)
  | .parseResponse raw => parseOutcome t strict raw

/-- The answer to a request: its contract is checked first (R116), then that the table it reads is there (R213). -/
def answer (t : CrcTable) (strict ready : Bool) (i : Instr) : Except Refusal OpOutcome :=
  if i.wf = false then .error .contractViolation
  else if readsTable strict i = true ∧ ready = false then .error .tableNotInitialised
  else .ok (outcomeOf t strict i)

/-- The block gives an answer: it concludes the operation with an outcome, or refuses the request (R180, R184). -/
def State.respond (s : State) : Except Refusal OpOutcome → Host.Outcome State Fault Refusal
  | .ok o => .next (s.conclude o)
  | .error r => .refused r

/-- Only `BUILD_DATA` has a contract to break (R116). -/
theorem exec_refused_of_not_wf (i : Instr) (s : State) (hw : i.wf = false) :
    exec i s = .refused .contractViolation := by
  cases i with
  | buildData input n => exact execBuildData_refused input n s hw
  | _ => cases hw

/-- `CHECKSUM` before the table is initialised (R213). -/
theorem execChecksum_not_ready (input : List Byte) (s : State) (h : s.tableReady = false) :
    execChecksum input s = .refused .tableNotInitialised := State.needTable_not_ready _ _ h

/-- `BUILD_DATA` inside its contract, before the table is initialised (R213). -/
theorem execBuildData_not_ready (input : List Byte) (n : Half) (s : State) (hw : (Instr.buildData input n).wf = true)
    (h : s.tableReady = false) : execBuildData input n s = .refused .tableNotInitialised := by
  rw [buildData_wf_iff] at hw
  rw [execBuildData, if_neg (by omega)]
  exact buildPacket_not_ready (s.loadIn input) _ _ h

/-- A request that reads the table is refused before the table is initialised (R213). -/
theorem exec_refused_of_table (i : Instr) (s : State) (hw : i.wf = true) (hr : readsTable s.config.strict i = true)
    (ht : s.tableReady = false) : exec i s = .refused .tableNotInitialised := by
  have strict (hp : i.isParse = true) : s.config.strict = true := by simpa [readsTable, hp] using hr
  cases i with
  | checksum input => exact execChecksum_not_ready input s ht
  | buildStart => exact buildPacket_not_ready _ _ _ ht
  | buildInfo md => exact buildPacket_not_ready _ _ _ ht
  | buildData input n => exact execBuildData_not_ready input n s hw ht
  | buildStop => exact buildPacket_not_ready _ _ _ ht
  | rspStart f => exact interpretRaw_refused _ s (strict rfl) ht
  | rspInfo f => exact interpretRaw_refused _ s (strict rfl) ht
  | rspData f => exact interpretRaw_refused _ s (strict rfl) ht
  | rspStop f => exact interpretRaw_refused _ s (strict rfl) ht
  | parseResponse raw => exact interpretRaw_refused raw s (strict rfl) ht

/-- Every other request completes with its outcome and changes nothing else (R180, R188). -/
theorem exec_concludes (i : Instr) (s : State) (hw : i.wf = true)
    (ht : readsTable s.config.strict i = true → s.tableReady = true) :
    exec i s = .next (s.conclude (outcomeOf s.config.crcTable s.config.strict i)) := by
  have ready (hp : i.isParse = false) : s.tableReady = true := ht (by simp [readsTable, hp])
  have parseReady (hs : s.config.strict = true) : s.tableReady = true := ht (by simp [readsTable, hs])
  cases i with
  | checksum input => exact execChecksum_ready input s (ready rfl)
  | buildStart => exact buildPacket_ready s _ _ (ready rfl)
  | buildInfo md => exact buildPacket_ready s _ _ (ready rfl)
  | buildData input n => exact execBuildData_ready input n s hw (ready rfl)
  | buildStop => exact buildPacket_ready s _ _ (ready rfl)
  | rspStart f => exact interpretRaw_ready _ s parseReady
  | rspInfo f => exact interpretRaw_ready _ s parseReady
  | rspData f => exact interpretRaw_ready _ s parseReady
  | rspStop f => exact interpretRaw_ready _ s parseReady
  | parseResponse raw => exact interpretRaw_ready raw s parseReady

/-- What the block does with a request is to give its answer, which is read from table, mode and table-initialised bit alone
(R20). -/
theorem exec_eq_respond (i : Instr) (s : State) :
    exec i s = s.respond (answer s.config.crcTable s.config.strict s.tableReady i) := by
  unfold answer
  split_ifs with hw ht
  · exact exec_refused_of_not_wf i s hw
  · exact exec_refused_of_table i s (by simpa using hw) ht.1 ht.2
  · exact exec_concludes i s (by simpa using hw) (by simpa using ht)

/-- A request that is answered with a next state has concluded with one outcome, and done nothing else (R180, R188). -/
theorem exec_next (i : Instr) (s t : State) (h : exec i s = .next t) : ∃ o, t = s.conclude o := by
  rw [exec_eq_respond] at h
  revert h
  cases answer s.config.crcTable s.config.strict s.tableReady i with
  | ok o => exact fun h => ⟨o, by cases h; rfl⟩
  | error r => exact nofun

end Sys2Proof.Machine

namespace Sys2Proof.Proofs

open Sys2Proof Sys2Proof.Machine

/-- Settles O9: both states give the same answer, and only its outcome or its reason is compared. -/
theorem resultDependsOnOperandsTableAndStrict : Obligations.ResultDependsOnOperandsTableAndStrict := by
  intro i s s' htable hstrict hready
  rw [exec_eq_respond i s, exec_eq_respond i s', ← htable, ← hstrict, ← hready]
  cases answer s.config.crcTable s.config.strict s.tableReady i with
  | ok o => exact ⟨fun t h => ⟨s'.conclude o, rfl, by cases h; rfl⟩, fun _ h => nomatch h⟩
  | error r => exact ⟨fun _ h => (nomatch h), fun _ h => h⟩

/-- Settles O10: a next state is the state before, concluded. -/
theorem operationsLeaveTheRest : Obligations.OperationsLeaveTheRest := by
  intro i s t h
  obtain ⟨o, rfl⟩ := exec_next i s t h
  exact ⟨s.conclude_leaves o, o, rfl⟩

end Sys2Proof.Proofs
end

section
/-! PROOF. The machine right after reset (spec/10_state.md R33): the base of the invariant. -/

namespace Sys2Proof.Machine

open Sys2Proof

/-- Nothing of the empty image is acknowledged at reset, and that is all of it (R152). -/
theorem Driver.reset_offsetFits : Driver.reset.offsetFits :=
  ⟨Nat.le_refl 0, fun h => by simp [Driver.reset] at h, fun _ => rfl⟩

/-- A driver at rest with an idle port fits (R163, R215). -/
theorem State.portFits_of_rest (s : State) (ha : s.driver.act = .rest) (hp : s.portIdle) : s.portFits := by
  unfold State.portFits
  rw [ha]
  exact .inl hp

end Sys2Proof.Machine

namespace Sys2Proof.Proofs

open Sys2Proof Sys2Proof.Machine

/-- Settles O47: these are the values R33 and R8 name. -/
theorem resetLeavesTheBlockIdle : Obligations.ResetLeavesTheBlockIdle :=
  ⟨fun _ => ⟨rfl, rfl, rfl, rfl, rfl, rfl⟩, rfl, rfl⟩

/-- Settles O48: block and driver are at rest, and the driver has no image, no report, no task and no bytes held. -/
theorem resetMeetsTheInvariant : Obligations.ResetMeetsTheInvariant := fun c =>
  { spaces := rfl
    table := rfl
    place := rfl
    port := State.portFits_of_rest (State.resetWith c) rfl ⟨rfl, rfl⟩
    outcome := nofun
    offset := Driver.reset_offsetFits
    reason := nofun
    source := rfl
    retries := Nat.zero_le c.retryMax
    progress := nofun
    tasks := nofun
    held := nofun }

end Sys2Proof.Proofs
end

section
/-! PROOF. The two loading steps of a parse as equations on the whole state (spec/10_state.md R29). -/

namespace Sys2Proof.Machine

open Sys2Proof

/-- The start of a parse writes `RAW`, `cnt` and, in strict mode, `crc` (R27, R29). -/
theorem State.beginParse_eq (s : State) (raw : List Byte) :
    s.beginParse raw =
      { s with
        spaces := { s.spaces with raw := some raw }
        regs :=
          if s.config.strict then { s.regs with cnt := raw.length, crc := CRC_SEED }
          else { s.regs with cnt := raw.length } } := by
  unfold State.beginParse
  split <;> rfl

/-- The copies of `RAW` bytes write `rcmd`, `rstat` and, in strict mode, `rlen` and `rcrc` (R29, R132). -/
theorem State.copyResponse_eq (s : State) (command : Byte) (f : RspFields) :
    s.copyResponse command f =
      { s with
        regs :=
          if s.config.strict then
            { s.regs with
              rcmd := command, rstat := f.status, rlen := fromLe16 f.lenLow f.lenHigh
              rcrc := fromLe16 f.crcLow f.crcHigh }
          else { s.regs with rcmd := command, rstat := f.status } } := by
  unfold State.copyResponse
  split <;> rfl

end Sys2Proof.Machine

namespace Sys2Proof.Proofs

open Sys2Proof Sys2Proof.Machine

/-- Settles O55: the two loading steps one after the other, in either mode. -/
theorem parseLoadsItsRegisters : Obligations.ParseLoadsItsRegisters := by
  intro s b0 b1 b2 b3 b4 b5 b6 b7 rest raw both
  refine ⟨b1, ⟨b0, b2, b3, b4, b5, b6, b7⟩, rfl, ?_⟩
  rw [State.copyResponse_eq, State.beginParse_eq]
  cases s.config.strict with
  | false => rfl
  | true => rfl

end Sys2Proof.Proofs
end

section
/-! PROOF. What one step can do (spec/20_memory.md R50), and what a move of the driver leaves of the block: parameters,
table-initialised bit, registers, spaces and a standing reset (spec/00_scope.md R5, spec/10_state.md R25). -/

namespace Sys2Proof.Machine

open Sys2Proof

/-! ### The three kinds of step -/

/-- The block goes on only with a request that stands alone and decodes, and then it runs that request (R50, R184). -/
theorem blockStep_next (r : Request) (rest : List Request) (s t : State) (h : blockStep r rest s = .next t) :
    rest = [] ∧ s.result = none ∧ ∃ i, decode r = .ok i ∧ exec i s = .next t := by
  unfold blockStep at h
  split at h
  case isTrue => cases h
  case isFalse alone =>
    obtain ⟨hrest, hresult⟩ : rest = [] ∧ s.result = none := by simpa using alone
    split at h
    case h_1 i hd => exact ⟨hrest, hresult, i, hd, h⟩
    case h_2 => cases h

/-- A step that goes on is a reset, one operation of the block on the request that stands alone, or a move of the driver
(R50, R212). -/
theorem step_next (s t : State) (h : step s = .next t) :
    (s.resetPending = true ∧ t = s.blockReset) ∨
      (∃ r i, s.resetPending = false ∧ s.requests = [r] ∧ s.result = none ∧ decode r = .ok i ∧ exec i s = .next t) ∨
      (s.resetPending = false ∧ s.requests = [] ∧ driverStep s = .next t) := by
  cases hp : s.resetPending with
  | true =>
    rw [step_reset s hp] at h
    cases h
    exact .inl ⟨rfl, rfl⟩
  | false =>
    refine .inr ?_
    cases hr : s.requests with
    | nil => exact .inr ⟨rfl, rfl, step_driver s hp hr ▸ h⟩
    | cons r rest =>
      have hb : blockStep r rest s = .next t := by simpa [step, hp, hr] using h
      obtain ⟨rfl, hresult, i, hd, he⟩ := blockStep_next r rest s t hb
      exact .inl ⟨r, i, rfl, rfl, hresult, hd, he⟩

/-! ### The driver's frame -/

/-- `t` has everything of `s` that is the block's own; the driver, the transport and the two ports between driver and block
may differ. -/
structure DriverFrame (s t : State) : Prop where
  config       : t.config = s.config
  tableReady   : t.tableReady = s.tableReady
  resetPending : t.resetPending = s.resetPending
  regs         : t.regs = s.regs
  spaces       : t.spaces = s.spaces
  freeCount    : t.freeCount = s.freeCount

namespace DriverFrame

theorem refl (s : State) : DriverFrame s s := ⟨rfl, rfl, rfl, rfl, rfl, rfl⟩

theorem trans {s t u : State} (h : DriverFrame s t) (k : DriverFrame t u) : DriverFrame s u :=
  ⟨k.config.trans h.config, k.tableReady.trans h.tableReady, k.resetPending.trans h.resetPending,
    k.regs.trans h.regs, k.spaces.trans h.spaces, k.freeCount.trans h.freeCount⟩

theorem withDriver (s : State) (d : Driver) : DriverFrame s (s.withDriver d) := ⟨rfl, rfl, rfl, rfl, rfl, rfl⟩

theorem withTransport (s : State) (p : Transport) : DriverFrame s { s with transport := p } :=
  ⟨rfl, rfl, rfl, rfl, rfl, rfl⟩

theorem withRequests (s : State) (rs : List Request) : DriverFrame s { s with requests := rs } :=
  ⟨rfl, rfl, rfl, rfl, rfl, rfl⟩

theorem takeResult (s : State) : DriverFrame s s.takeResult := ⟨rfl, rfl, rfl, rfl, rfl, rfl⟩

theorem goto (s : State) (p : Phase) (a : Act) : DriverFrame s (s.goto p a) := withDriver s _

theorem abort (s : State) (r : AbortReason) : DriverFrame s (s.abort r) := goto s _ _

theorem ask (s : State) (i : Instr) (a : Act) : DriverFrame s (s.ask i a) := (withRequests s _).trans (withDriver _ _)

end DriverFrame

/-! ### Each move of the driver keeps the frame -/

theorem driverRest_frame (s : State) : DriverFrame s (driverRest s) := by
  unfold driverRest
  split
  case h_1 => exact .takeResult s
  case h_2 =>
    split
    case h_1 => exact .refl s
    case h_2 => exact (DriverFrame.withDriver s _).trans (.withRequests _ _)
    case h_3 => exact .withDriver s _

theorem driverBuild_frame (s : State) : DriverFrame s (driverBuild s) := by
  unfold driverBuild
  split
  case h_3 =>
    split_ifs
    · exact .goto s _ _
    · exact .ask s _ _
  case h_1 | h_2 | h_4 => exact .ask s _ _
  case h_5 | h_6 | h_7 | h_8 => exact .refl s

theorem State.transmit_frame (s : State) (p : List Byte) : DriverFrame s (s.transmit p) := by
  refine (DriverFrame.withTransport s (s.transport.write p).2).trans ?_
  unfold State.transmit
  dsimp only
  split_ifs
  · exact .withDriver _ _
  · exact .abort _ _

theorem driverTakePacket_frame (s t : State) (h : driverTakePacket s = .next t) : DriverFrame s t := by
  unfold driverTakePacket at h
  split at h
  case h_1 =>
    cases h
    exact .refl s
  case h_2 =>
    cases h
    exact (DriverFrame.takeResult s).trans (State.transmit_frame _ _)
  case h_3 | h_4 | h_5 => cases h

theorem driverListen_frame (s : State) : DriverFrame s (driverListen s) := by
  refine (DriverFrame.withTransport s s.transport.nextRead.2).trans ?_
  unfold driverListen
  dsimp only
  cases s.transport.nextRead.1 with
  | bytes b => exact .ask _ _ _
  | failed => exact .abort _ _

theorem driverIgnore_frame (s : State) : DriverFrame s (driverIgnore s) := by
  refine (DriverFrame.withDriver s { s.driver with act := .listen, waited := s.driver.waited + 1 }).trans ?_
  unfold driverIgnore
  dsimp only
  split
  case h_1 => exact .refl _
  case h_2 =>
    split_ifs
    · exact .abort _ _
    · exact .refl _

theorem driverUnparsed_frame (e : ParseError) (s : State) : DriverFrame s (driverUnparsed e s) := by
  unfold driverUnparsed
  cases s.config.onMalformed with
  | retry => exact driverIgnore_frame s
  | abort => exact .abort s _

theorem driverChunkAcked_frame (s : State) : DriverFrame s (driverChunkAcked s) := by
  unfold driverChunkAcked
  dsimp only
  split_ifs
  · exact .withDriver s _
  · exact .withDriver s _

theorem driverChunkRefused_frame (code : Byte) (s : State) : DriverFrame s (driverChunkRefused code s) := by
  unfold driverChunkRefused
  split_ifs
  · exact .withDriver s _
  · exact .abort s _

theorem driverAck_frame (s : State) : DriverFrame s (driverAck s) := by
  unfold driverAck
  split
  case h_1 => exact .goto s _ _
  case h_2 => exact .withDriver s _
  case h_3 => exact driverChunkAcked_frame s
  case h_4 | h_5 | h_6 | h_7 | h_8 => exact .refl s

theorem driverNack_frame (code : Byte) (s : State) : DriverFrame s (driverNack code s) := by
  unfold driverNack
  split_ifs
  · exact driverChunkRefused_frame code s
  · exact .abort s _

theorem driverTakeParse_frame (s t : State) (h : driverTakeParse s = .next t) : DriverFrame s t := by
  unfold driverTakeParse at h
  split at h
  case h_1 =>
    cases h
    exact .refl s
  case h_2 kind status _ =>
    refine (DriverFrame.takeResult s).trans ?_
    split_ifs at h
    · cases status with
      | ack =>
        cases h
        exact driverAck_frame _
      | nack code =>
        cases h
        exact driverNack_frame code _
    · cases h
      exact driverIgnore_frame _
  case h_3 e _ =>
    cases h
    exact (DriverFrame.takeResult s).trans (driverUnparsed_frame e _)
  case h_4 | h_5 => cases h

/-- The driver acts on the block through its ports alone (R5). -/
theorem driverStep_frame (s t : State) (h : driverStep s = .next t) : DriverFrame s t := by
  unfold driverStep at h
  split at h
  case h_1 =>
    cases h
    exact driverRest_frame s
  case h_2 =>
    cases h
    exact driverBuild_frame s
  case h_3 => exact driverTakePacket_frame s t h
  case h_4 =>
    cases h
    exact driverListen_frame s
  case h_5 => exact driverTakeParse_frame s t h

end Sys2Proof.Machine

namespace Sys2Proof.Proofs

open Sys2Proof Sys2Proof.Machine

/-- Settles O11: a reset and the conclusion of an operation keep the record, and it is in the driver's frame. -/
theorem stepsNeverWriteTheTable : Obligations.StepsNeverWriteTheTable := by
  intro s t h
  obtain ⟨-, rfl⟩ | ⟨r, i, -, -, -, -, he⟩ | ⟨-, -, hd⟩ := step_next s t h
  · exact State.blockReset_config s
  · obtain ⟨o, rfl⟩ := exec_next i s t he
    exact State.conclude_config s o
  · exact (driverStep_frame s t hd).config

/-- Settles O1: with no reset pending and no outcome beside the request, it is the block that moves. -/
theorem stepRunsTheDecodedRequest : Obligations.StepRunsTheDecodedRequest := step_block

end Sys2Proof.Proofs
end

section
/-! PROOF. The encoding of requests (spec/30_encoding.md R71, R75 to R80): each decoder undoes the layout its encoder writes, and
a response decodes to the parse whose `RAW` operand it is. -/

namespace Sys2Proof

/-! ### The operands at the operation port -/

/-- The nine operand bytes of `BUILD_INFO` are its payload, field by field (R68). -/
theorem decodeInfoOperands_infoPayload (md : FirmwareMetadata) :
    decodeInfoOperands (infoPayload md) = .ok (.buildInfo md) := by
  change Except.ok (Instr.buildInfo ⟨fromLe32 _ _ _ _, md.type, fromLe16 _ _, fromLe16 _ _⟩) = _
  rw [fromLe32_bytes, fromLe16_lo8_hi8, fromLe16_lo8_hi8]

/-- The chunk length stands before the chunk, low byte first. -/
theorem decodeDataOperands_le16 (n : Half) (input : List Byte) :
    decodeDataOperands (le16 n ++ input) = .ok (.buildData input n) := by
  change Except.ok (Instr.buildData input (fromLe16 (lo8 n) (hi8 n))) = _
  rw [fromLe16_lo8_hi8]

/-- A table word that is read as `i` stands for a request that decodes to `i` (R80). -/
theorem decode_tableRequest (nbits w : Nat) (i : Instr) (h : decodeTableWord nbits w = some i) :
    decode (tableRequest nbits w) = .ok i := by
  unfold decodeTableWord at h
  cases hd : decode (tableRequest nbits w) with
  | ok j =>
    rw [hd] at h
    exact congrArg Except.ok (Option.some.inj h)
  | error e =>
    rw [hd] at h
    cases h

/-! ### Responses -/

/-- Eight bytes with a command byte that names a kind are that kind's row (R71, R80). -/
theorem decodeResponse_raw (f : RspFields) (k : CommandKind) :
    decodeResponse (f.raw k.code) = .ok (rspOfKind k f) := by
  unfold RspFields.raw decodeResponse
  dsimp only
  rw [lenientRow_eq, kindOfCode_code]

end Sys2Proof

namespace Sys2Proof.Machine

open Sys2Proof

/-- A response row passes in its eight bytes, with the kind's wire code as command byte (R31, R71). -/
theorem rawOperand_rspOfKind (k : CommandKind) (f : RspFields) : rawOperand (rspOfKind k f) = some (f.raw k.code) := by
  cases k <;> rfl

/-- Whatever comes in decodes to a request that passes in just those bytes (R71, R77; log 3). -/
theorem decodeResponse_rawOperand (bytes : List Byte) :
    ∃ i, decodeResponse bytes = .ok i ∧ rawOperand i = some bytes := by
  unfold decodeResponse
  split
  case h_1 b0 b1 b2 b3 b4 b5 b6 b7 =>
    rw [lenientRow_eq]
    cases hk : kindOfCode b1 with
    | none => exact ⟨_, rfl, rfl⟩
    | some k =>
      refine ⟨_, rfl, ?_⟩
      rw [rawOperand_rspOfKind, code_of_kindOfCode b1 k hk]
      rfl
  case h_2 => exact ⟨_, rfl, rfl⟩

end Sys2Proof.Machine

namespace Sys2Proof.Proofs

open Sys2Proof Sys2Proof.Machine

/-- Settles O4: the operand layouts and the response rows are each undone by their decoder. -/
theorem decodeInvertsEncode : Obligations.DecodeInvertsEncode := by
  intro i
  cases i with
  | checksum input => rfl
  | buildStart => rfl
  | buildInfo md => exact decodeInfoOperands_infoPayload md
  | buildData input n => exact decodeDataOperands_le16 n input
  | buildStop => rfl
  | rspStart f => exact decodeResponse_raw f .start
  | rspInfo f => exact decodeResponse_raw f .info
  | rspData f => exact decodeResponse_raw f .firmwareData
  | rspStop f => exact decodeResponse_raw f .stop
  | parseResponse raw => rfl

/-- Settles O6: the request passes in the bytes that came, and a request with a `RAW` operand is a parse of it. -/
theorem incomingBytesAreParsed : Obligations.IncomingBytesAreParsed := by
  intro bytes
  obtain ⟨i, hd, hraw⟩ := decodeResponse_rawOperand bytes
  refine ⟨i, hd, ?_, exec_of_rawOperand i bytes hraw⟩
  rw [← rawOperand_isSome, hraw]
  rfl

/-- Settles O2: the placed request stands alone, so the block answers it. -/
theorem fetchWordIsRunNext : Obligations.FetchWordIsRunNext := by
  intro s nbits w i h
  exact step_block _ (tableRequest nbits w) i rfl rfl rfl (decode_tableRequest nbits w i h)

/-- Settles O3: the decoder evaluated on each word. -/
theorem specWordsDecode : Obligations.SpecWordsDecode :=
  ⟨rfl, rfl, rfl, rfl, rfl, rfl, rfl, rfl, rfl, rfl⟩

end Sys2Proof.Proofs
end

section
/-! PROOF. The packets the builders deliver (spec/30_encoding.md R67 to R70, spec/41_packet_framer.md R110): a builder's outcome is
the frame of its payload, and the decoder reads from that frame the row, the payload and with them the builder. -/

namespace Sys2Proof.Machine

open Sys2Proof

/-! ### The frame -/

/-- The frame as the decoder meets it: four header bytes, the payload, and what is not read (R60, R66). -/
theorem frame_eq_cons (t : CrcTable) (cmd : Byte) (payload : List Byte) :
    frame t cmd payload =
      MARK_START :: cmd :: lo8 (BitVec.ofNat 16 payload.length) :: hi8 (BitVec.ofNat 16 payload.length) ::
        (payload ++ (le16 (checksum t (checkedSlice cmd payload)) ++ [MARK_END])) := by
  simp [frame, checkedSlice, le16]

/-- A frame is seven bytes longer than its payload (R66). -/
theorem frame_length (t : CrcTable) (cmd : Byte) (payload : List Byte) :
    (frame t cmd payload).length = 7 + payload.length := by
  simp [frame_eq_cons]
  omega

/-- A builder's outcome is the frame of its payload (R111 to R114). -/
theorem outcomeOf_framed (t : CrcTable) (strict : Bool) (i : Instr) (cmd : Byte) (payload : List Byte)
    (h : i.framed = some (cmd, payload)) : outcomeOf t strict i = .ok (.packet (frame t cmd payload)) := by
  cases i <;> cases h <;> rfl

/-- The builders are the requests with a payload to frame (R4). -/
theorem framed_of_isBuilder (i : Instr) (h : i.isBuilder = true) : ∃ cmd payload, i.framed = some (cmd, payload) := by
  cases i with
  | buildStart | buildInfo md | buildData input n | buildStop => exact ⟨_, _, rfl⟩
  | _ => cases h

/-- A well-formed builder, with the table initialised, concludes with the frame of its payload (R110). -/
theorem exec_framed (i : Instr) (s : State) (cmd : Byte) (payload : List Byte) (hf : i.framed = some (cmd, payload))
    (hw : i.wf = true) (ht : s.tableReady = true) :
    exec i s = .next (s.conclude (.ok (.packet (frame s.config.crcTable cmd payload)))) := by
  rw [exec_concludes i s hw fun _ => ht, outcomeOf_framed _ _ i cmd payload hf]

/-- A request with a payload to frame yields that frame (R110, R188). -/
theorem yields_frame (i : Instr) (s : State) (cmd : Byte) (payload : List Byte) (hf : i.framed = some (cmd, payload))
    (hw : i.wf = true) (ht : s.tableReady = true) :
    Yields i s (.ok (.packet (frame s.config.crcTable cmd payload))) :=
  yields_of_conclude i s _ (exec_framed i s cmd payload hf hw ht)

/-! ### The chunk of `BUILD_DATA` -/

/-- A chunk of `n` supplied bytes has LENGTH `n` (R63, R69). -/
theorem ofNat_length_take (input : List Byte) (n : Half) (h : n.toNat ≤ input.length) :
    BitVec.ofNat 16 (input.take n.toNat).length = n := by
  rw [List.length_take, Nat.min_eq_left h, BitVec.ofNat_toNat, BitVec.setWidth_eq]

/-- The low byte of a small value, widened, is the value (R69). -/
theorem setWidth_lo8_of_small (n : Half) (h : n.toNat < 256) : (lo8 n).setWidth 16 = n := by
  apply BitVec.eq_of_toNat_eq
  rw [BitVec.toNat_setWidth, toNat_lo8_of_small n h]
  omega

/-- The DATA row gives back its chunk and its length, whatever follows the chunk (R69, R80; log 2). -/
theorem decodeDataPacket_chunk (n : Half) (chunk rest : List Byte) (hn : n.toNat ≤ DATA_MAX)
    (hl : chunk.length = n.toNat) : decodeDataPacket (lo8 n) (chunk ++ rest) = .ok (.buildData chunk n) := by
  have small : n.toNat < 256 := Nat.lt_of_le_of_lt hn (by decide)
  rw [decodeDataPacket, toNat_lo8_of_small n small, setWidth_lo8_of_small n small, if_neg (by omega),
    if_neg (by simp [hl]), List.take_left' hl]

/-! ### Decoding a frame, builder by builder -/

theorem decodeCommand_frame_start (t : CrcTable) :
    decodeCommand (frame t CMD_START [START_PAYLOAD]) = .ok .buildStart := by
  have row : rowOf commandRows (header32 MARK_START CMD_START (lo8 1#16) (hi8 1#16)) = some .start := by decide
  rw [frame_eq_cons]
  simp [decodeCommand, row, decodeFixed]

theorem decodeCommand_frame_stop (t : CrcTable) :
    decodeCommand (frame t CMD_STOP [STOP_PAYLOAD]) = .ok .buildStop := by
  have row : rowOf commandRows (header32 MARK_START CMD_STOP (lo8 1#16) (hi8 1#16)) = some .stop := by decide
  rw [frame_eq_cons]
  simp [decodeCommand, row, decodeFixed]

theorem decodeCommand_frame_info (t : CrcTable) (md : FirmwareMetadata) :
    decodeCommand (frame t CMD_INFO (infoPayload md)) = .ok (.buildInfo md) := by
  have row : rowOf commandRows
      (header32 MARK_START CMD_INFO (lo8 (BitVec.ofNat 16 INFO_LEN)) (hi8 (BitVec.ofNat 16 INFO_LEN))) = some .info := by
    decide
  rw [frame_eq_cons, infoPayload_length]
  simp [decodeCommand, row, List.take_left' (infoPayload_length md), decodeInfoOperands_infoPayload]

theorem decodeCommand_frame_data (t : CrcTable) (input : List Byte) (n : Half)
    (hw : (Instr.buildData input n).wf = true) :
    decodeCommand (frame t CMD_DATA (input.take n.toNat)) = .ok (.buildData (input.take n.toNat) n) := by
  obtain ⟨hn, hl⟩ := (buildData_wf_iff input n).mp hw
  rw [frame_eq_cons, ofNat_length_take input n hl, hi8_of_small n (Nat.lt_of_le_of_lt hn (by decide))]
  simp only [decodeCommand, Laws.TableColumns.dataRow]
  exact decodeDataPacket_chunk n _ _ hn (by rw [List.length_take, Nat.min_eq_left hl])

/-- The frame of a well-formed builder's payload decodes to that builder (R77, R80). -/
theorem decodeCommand_frame (t : CrcTable) (i : Instr) (cmd : Byte) (payload : List Byte)
    (hf : i.framed = some (cmd, payload)) (hw : i.wf = true) : decodeCommand (frame t cmd payload) = .ok i.trimmed := by
  cases i with
  | buildStart => cases hf; exact decodeCommand_frame_start t
  | buildInfo md => cases hf; exact decodeCommand_frame_info t md
  | buildData input n => cases hf; exact decodeCommand_frame_data t input n hw
  | buildStop => cases hf; exact decodeCommand_frame_stop t
  | _ => cases hf

/-! ### Which outcomes carry a packet -/

/-- Interpreting eight bytes gives a response or an error, never a packet (R130). -/
theorem interpretOutcome_ne_packet (t : CrcTable) (strict : Bool) (c : Byte) (f : RspFields) (p : List Byte) :
    interpretOutcome t strict c f ≠ .ok (.packet p) := by
  unfold interpretOutcome
  cases kindOfCode c with
  | none => split_ifs <;> exact nofun
  | some k => split_ifs <;> exact nofun

/-- A parse never ends with a packet (R130). -/
theorem parseOutcome_ne_packet (t : CrcTable) (strict : Bool) (raw p : List Byte) :
    parseOutcome t strict raw ≠ .ok (.packet p) := by
  unfold parseOutcome
  cases rspBytes raw with
  | none => exact nofun
  | some cf => exact interpretOutcome_ne_packet t strict cf.1 cf.2 p

/-- A packet that is delivered is a frame with one of the four wire codes (R62, R111 to R114). -/
theorem outcomeOf_packet (t : CrcTable) (strict : Bool) (i : Instr) (p : List Byte)
    (h : outcomeOf t strict i = .ok (.packet p)) : ∃ (k : CommandKind) (payload : List Byte), p = frame t k.code payload := by
  cases i with
  | checksum input => cases h
  | buildStart => cases h; exact ⟨.start, _, rfl⟩
  | buildInfo md => cases h; exact ⟨.info, _, rfl⟩
  | buildData input n => cases h; exact ⟨.firmwareData, _, rfl⟩
  | buildStop => cases h; exact ⟨.stop, _, rfl⟩
  | _ =>
    rw [outcomeOf] at h
    exact absurd h (parseOutcome_ne_packet t strict _ p)

/-- A next state has the outcome of its request (R180). -/
theorem result_of_exec_next (i : Instr) (s t : State) (h : exec i s = .next t) :
    t.result = some (outcomeOf s.config.crcTable s.config.strict i) := by
  rw [exec_eq_respond] at h
  unfold answer at h
  split_ifs at h
  · cases h
  · cases h
  · cases h
    rfl

/-- A kind's wire code is a defined one (R62). -/
theorem definedCode_code (k : CommandKind) : definedCode k.code := by
  unfold definedCode
  cases k <;> decide

end Sys2Proof.Machine

namespace Sys2Proof.Proofs

open Sys2Proof Sys2Proof.Machine

/-- Settles O5: the packet is the frame of the builder's payload, and that frame decodes to the builder. -/
theorem builtPacketDecodesToItsBuilder : Obligations.BuiltPacketDecodesToItsBuilder := by
  intro i s hb hw ht
  obtain ⟨cmd, payload, hf⟩ := framed_of_isBuilder i hb
  exact ⟨_, _, exec_framed i s cmd payload hf hw ht, State.conclude_result _ _, decodeCommand_frame _ i cmd payload hf hw⟩

/-- Settles O17: the frame of each fixed payload, written out. -/
theorem startAndStopPackets : Obligations.StartAndStopPackets := fun s ht =>
  ⟨yields_frame .buildStart s CMD_START [START_PAYLOAD] rfl rfl ht,
    yields_frame .buildStop s CMD_STOP [STOP_PAYLOAD] rfl rfl ht⟩

/-- Settles O18: the frame of the nine payload bytes, written out. -/
theorem infoPacket : Obligations.InfoPacket := by
  intro s md ht body
  have checked : checkedSlice CMD_INFO (infoPayload md) = body := by
    rw [checkedSlice, infoPayload_length]
    rfl
  rw [← checked]
  exact yields_frame (.buildInfo md) s CMD_INFO (infoPayload md) rfl rfl ht

/-- Settles O19: the slice under the checksum is the command, `n` in two bytes and the chunk. -/
theorem dataPacket : Obligations.DataPacket := by
  intro s input n ht hn hl body packet
  have low : lo8 n = BitVec.ofNat 8 n.toNat := by
    apply BitVec.eq_of_toNat_eq
    rw [toNat_lo8_of_small n (by omega), BitVec.toNat_ofNat]
    omega
  have checked : checkedSlice CMD_DATA (input.take n.toNat) = body := by
    rw [checkedSlice, ofNat_length_take input n hl, le16, hi8_of_small n (by omega), low]
    rfl
  have framed : frame s.config.crcTable CMD_DATA (input.take n.toNat) = packet := by
    rw [frame, checked]
    rfl
  rw [← framed]
  refine ⟨yields_frame (.buildData input n) s _ _ rfl ((buildData_wf_iff input n).mpr ⟨hn, hl⟩) ht, ?_⟩
  rw [frame_length, List.length_take, Nat.min_eq_left hl]

end Sys2Proof.Proofs
end

section
/-! PROOF. The command byte and the checks of a response (spec/30_encoding.md R71 to R73, spec/42_response_interpreter.md R132 to
R135), read off the outcome of a parse. -/

namespace Sys2Proof.Machine

open Sys2Proof

/-- A request that ends in a parse, where it has a defined result, yields the outcome of the parse of its `RAW` (R130, R188). -/
theorem yields_parseOutcome (i : Instr) (raw : List Byte) (s : State) (hraw : rawOperand i = some raw) (h : ParseReady s) :
    Yields i s (parseOutcome s.config.crcTable s.config.strict raw) :=
  yields_of_conclude i s _ ((exec_of_rawOperand i raw hraw s).trans (exec_parseResponse_ready raw s h))

/-- The command byte of a response is the byte at offset 1 (R61). -/
theorem rspBytes_command (raw : List Byte) (c : Byte) (f : RspFields) (h : rspBytes raw = some (c, f)) :
    raw[1]? = some c := by
  unfold rspBytes at h
  split at h
  · cases h
    rfl
  · cases h

/-- A command byte that names no kind is `Malformed`, whether or not the framing holds (R135). -/
theorem interpretOutcome_undefined (t : CrcTable) (strict : Bool) (c : Byte) (f : RspFields) (h : kindOfCode c = none) :
    interpretOutcome t strict c f = .error .malformed := by
  unfold interpretOutcome
  rw [h]
  split_ifs <;> rfl

/-- A response with an undefined command byte is `Malformed`, however many bytes it has (R73, R131, R135). -/
theorem parseOutcome_undefined (t : CrcTable) (strict : Bool) (raw : List Byte) (b : Byte) (hb : raw[1]? = some b)
    (hu : ¬ definedCode b) : parseOutcome t strict raw = .error .malformed := by
  unfold parseOutcome
  split
  case h_1 => rfl
  case h_2 c f hr =>
    have hc : c = b := Option.some.inj ((rspBytes_command raw c f hr).symm.trans hb)
    exact interpretOutcome_undefined t strict c f ((kindOfCode_eq_none c).mpr (hc ▸ hu))

/-- The length field is 1 exactly when its bytes are `01 00` (R63, R71). -/
theorem fromLe16_eq_rspLen (l h : Byte) : fromLe16 l h = RSP_LEN ↔ l = 0x01 ∧ h = 0x00 := by
  constructor
  · intro e
    exact ⟨(lo8_fromLe16 l h).symm.trans (congrArg lo8 e), (hi8_fromLe16 l h).symm.trans (congrArg hi8 e)⟩
  · rintro ⟨rfl, rfl⟩
    rfl

/-- The framing checks on the bytes of a response (R71, R133). -/
theorem framingOk_iff (f : RspFields) :
    framingOk f.startMark (fromLe16 f.lenLow f.lenHigh) f.endMark = true ↔
      f.startMark = 0x2A ∧ (f.lenLow = 0x01 ∧ f.lenHigh = 0x00) ∧ f.endMark = 0x23 := by
  rw [← fromLe16_eq_rspLen]
  simp [framingOk, MARK_START, MARK_END, and_assoc]

/-- The checksum field of a response with command byte `c` is the checksum of the bytes at offsets 1 to 4 (R65, R134). -/
def responseAgrees (t : CrcTable) (c : Byte) (f : RspFields) : Prop :=
  fromLe16 f.crcLow f.crcHigh = checksum t [c, f.lenLow, f.lenHigh, f.status]

section
variable (t : CrcTable) (k : CommandKind) (f : RspFields)

/-- Nothing but the command byte is checked in lenient mode (R132). -/
theorem interpretOutcome_lenient :
    interpretOutcome t false k.code f = .ok (.response k (decodeStatus f.status)) := by
  simp [interpretOutcome]

/-- Wrong framing is reported before anything else (R133, R187). -/
theorem interpretOutcome_unframed (hf : framingOk f.startMark (fromLe16 f.lenLow f.lenHigh) f.endMark = false) :
    interpretOutcome t true k.code f = .error .malformed := by
  simp [interpretOutcome, hf]

/-- A wrong checksum is reported once framing and command byte hold (R134, R187). -/
theorem interpretOutcome_mismatch (hf : framingOk f.startMark (fromLe16 f.lenLow f.lenHigh) f.endMark = true)
    (hc : ¬ responseAgrees t k.code f) : interpretOutcome t true k.code f = .error .checksumMismatch := by
  have hne : fromLe16 f.crcLow f.crcHigh ≠ checksum t [k.code, f.lenLow, f.lenHigh, f.status] := hc
  simp [interpretOutcome, hf, hne]

/-- Where framing and checksum hold, both modes decode the status (R72, R136). -/
theorem interpretOutcome_ok (strict : Bool) (hf : framingOk f.startMark (fromLe16 f.lenLow f.lenHigh) f.endMark = true)
    (hc : responseAgrees t k.code f) : interpretOutcome t strict k.code f = .ok (.response k (decodeStatus f.status)) := by
  have he : fromLe16 f.crcLow f.crcHigh = checksum t [k.code, f.lenLow, f.lenHigh, f.status] := hc
  simp [interpretOutcome, hf, he]

end

/-- A response row ends as its kind's bytes are interpreted (R71, R80, R130). -/
theorem yields_rspOfKind (s : State) (k : CommandKind) (f : RspFields) (h : ParseReady s) :
    Yields (rspOfKind k f) s (interpretOutcome s.config.crcTable s.config.strict k.code f) :=
  yields_parseOutcome _ (f.raw k.code) s (rawOperand_rspOfKind k f) h

/-- One response row, for any kind: its result, its framing error and its checksum error (R71, R132 to R134). -/
theorem rspOfKind_completes (s : State) (f : RspFields) (k : CommandKind) (h : ParseReady s) :
    let framed := f.startMark = 0x2A ∧ (f.lenLow = 0x01 ∧ f.lenHigh = 0x00) ∧ f.endMark = 0x23
    let agrees := responseAgrees s.config.crcTable k.code f
    (s.config.strict = false ∨ (framed ∧ agrees) →
      Yields (rspOfKind k f) s (.ok (.response k (decodeStatus f.status)))) ∧
    (s.config.strict = true → ¬ framed → Yields (rspOfKind k f) s (.error .malformed)) ∧
    (s.config.strict = true → framed → ¬ agrees → Yields (rspOfKind k f) s (.error .checksumMismatch)) := by
  intro framed agrees
  have hy := yields_rspOfKind s k f h
  have hframed : framingOk f.startMark (fromLe16 f.lenLow f.lenHigh) f.endMark = true ↔ framed := framingOk_iff f
  refine ⟨?_, fun hs hf => ?_, fun hs hf hc => ?_⟩
  · rintro (hs | ⟨hf, hc⟩)
    · rwa [hs, interpretOutcome_lenient] at hy
    · rwa [interpretOutcome_ok _ k f _ (hframed.mpr hf) hc] at hy
  · rwa [hs, interpretOutcome_unframed _ k f (Bool.eq_false_iff.mpr (mt hframed.mp hf))] at hy
  · rwa [hs, interpretOutcome_mismatch _ k f (hframed.mpr hf) hc] at hy

end Sys2Proof.Machine

namespace Sys2Proof.Proofs

open Sys2Proof Sys2Proof.Machine

/-- Settles O28: an undefined command byte makes the parse `Malformed`, and a delivered packet is a frame whose command byte is a
wire code. -/
theorem undefinedCommandCodes : Obligations.UndefinedCommandCodes := by
  refine ⟨fun s raw b hp hb hu => ?_, fun i s t p hx hp => ?_⟩
  · have hy := yields_parseOutcome (.parseResponse raw) raw s rfl hp
    rwa [parseOutcome_undefined _ _ raw b hb hu] at hy
  · rw [result_of_exec_next i s t hx] at hp
    obtain ⟨k, payload, rfl⟩ := outcomeOf_packet _ _ i p (Option.some.inj hp)
    exact ⟨k.code, rfl, definedCode_code k⟩

/-- Settles O30: one argument for all four kinds. -/
theorem responseRowsComplete : Obligations.ResponseRowsComplete := fun s f h =>
  ⟨rspOfKind_completes s f .start h, rspOfKind_completes s f .info h, rspOfKind_completes s f .firmwareData h,
    rspOfKind_completes s f .stop h⟩

end Sys2Proof.Proofs
end

section
/-! PROOF. The checksum (spec/40_checksum_engine.md R90 to R96): `CHECKSUM` yields the fold of the step from the seed. One fact
about that fold serves each statement: the step in byte terms (R91), the step of a masked accumulator (R92), and the fold over
one byte more (R96). -/

namespace Sys2Proof.Machine

open Sys2Proof

/-- `CHECKSUM`, with the table initialised, yields the checksum of its operand (R90, R188). -/
theorem yields_checksum (input : List Byte) (s : State) (ht : s.tableReady = true) :
    Yields (.checksum input) s (.ok (.checksum (checksum s.config.crcTable input))) :=
  yields_of_conclude _ s _ (execChecksum_ready input s ht)

/-- A shift by eight leaves of a half-word its low byte, moved to the high byte (R91). -/
theorem setWidth_lo8_shiftLeft (v : Half) : (lo8 v).setWidth 16 <<< 8 = v <<< 8 := by
  apply BitVec.eq_of_toNat_eq
  simp [lo8, Nat.shiftLeft_eq]
  omega

/-- The step byte by byte (R91). -/
theorem crcStep_eq_bytes (t : CrcTable) (crc : Half) (b : Byte) :
    crcStep t crc b = ((lo8 crc).setWidth 16 <<< 8) ^^^ tableRead t (hi8 crc ^^^ b) := by
  rw [setWidth_lo8_shiftLeft, crcStep]

/-! ### The unbounded accumulator -/

/-- The high byte of a number cut to sixteen bits is the number shifted right by eight, cut to eight bits (R92). -/
theorem hi8_ofNat (u : Nat) : hi8 (BitVec.ofNat 16 u) = BitVec.ofNat 8 (u >>> 8) := by
  apply BitVec.eq_of_toNat_eq
  simp [hi8, Nat.shiftRight_eq_div_pow]
  omega

/-- Masking commutes with the step: the reference's step, cut to sixteen bits, is the block's step of the accumulator cut to
sixteen bits (R92). -/
theorem crcStep_ofNat (t : CrcTable) (entry : Byte → Nat) (he : ∀ i, tableRead t i = BitVec.ofNat 16 (entry i)) (u : Nat)
    (b : Byte) : crcStep t (BitVec.ofNat 16 u) b = BitVec.ofNat 16 (unboundedStep entry u b) := by
  have shift : BitVec.ofNat 16 u <<< 8 = BitVec.ofNat 16 (u <<< 8) := by
    apply BitVec.eq_of_toNat_eq
    simp [Nat.shiftLeft_eq]
  have index : hi8 (BitVec.ofNat 16 u) ^^^ b = BitVec.ofNat 8 ((u >>> 8) ^^^ b.toNat) := by
    rw [hi8_ofNat, BitVec.ofNat_xor, BitVec.ofNat_toNat, BitVec.setWidth_eq]
  rw [crcStep, unboundedStep, BitVec.ofNat_xor, shift, index, he]

/-- The reference's result, masked at the end only, is the checksum (R92). -/
theorem checksum_eq_ofNat_unboundedChecksum (t : CrcTable) (entry : Byte → Nat)
    (he : ∀ i, tableRead t i = BitVec.ofNat 16 (entry i)) (s : List Byte) :
    checksum t s = BitVec.ofNat 16 (unboundedChecksum entry s) :=
  List.foldl_hom (BitVec.ofNat 16) (crcStep_ofNat t entry he)

/-! ### One byte, and one byte more -/

/-- The first step starts from the seed (R96). -/
theorem checksum_singleton (t : CrcTable) (b : Byte) : checksum t [b] = 0xFF00#16 ^^^ tableRead t (0xFF#8 ^^^ b) := by
  have high : hi8 CRC_SEED = 0xFF#8 := by decide
  have moved : CRC_SEED <<< 8 = 0xFF00#16 := by decide
  rw [checksum, checksumFrom_cons, checksumFrom_nil, crcStep, high, moved]

/-- One byte more is one step more (R96). -/
theorem checksum_append_singleton (t : CrcTable) (s : List Byte) (b : Byte) :
    checksum t (s ++ [b]) = crcStep t (checksum t s) b := checksumFrom_append t CRC_SEED s [b]

end Sys2Proof.Machine

namespace Sys2Proof.Proofs

open Sys2Proof Sys2Proof.Machine

/-- Settles O14: the statement's step is the model's, byte by byte. -/
theorem checksumFoldsTheStep : Obligations.ChecksumFoldsTheStep := by
  intro s input ht
  have stepBytes := funext₂ (crcStep_eq_bytes s.config.crcTable)
  have hy := yields_checksum input s ht
  rwa [checksum, checksumFrom, stepBytes] at hy

/-- Settles O15: masking commutes with each step, so with the fold. -/
theorem maskingOnceAtTheEndIsTheSame : Obligations.MaskingOnceAtTheEndIsTheSame := by
  intro entry s ht he input
  rw [← checksum_eq_ofNat_unboundedChecksum _ entry he]
  exact yields_checksum input s ht

/-- Settles O16: the checksum of one byte is one step from the seed, and `c` is the checksum of the shorter sequence. -/
theorem checksumOfOneByteAndExtension : Obligations.ChecksumOfOneByteAndExtension := by
  refine ⟨fun s b ht => ?_, fun s t input b c ht hx hc => ?_⟩
  · rw [← checksum_singleton]
    exact yields_checksum [b] s ht
  · rw [result_of_exec_next _ s t hx] at hc
    cases hc
    rw [← checksum_append_singleton]
    exact yields_checksum (input ++ [b]) s ht

end Sys2Proof.Proofs
end

section
/-! PROOF. The framer (spec/41_packet_framer.md R110, R115): what stands at each offset of a frame, and the state in which the
byte-serial framing leaves registers and spaces. For a payload of at most `DATA_MAX` bytes the length field and `pos` do not
wrap. -/

namespace Sys2Proof.Machine

open Sys2Proof

/-! ### The parts of a frame -/

/-- The slice that begins after `a` and ends before `c` is what stands between them (R11). -/
theorem slice_append_middle (a b c : List Byte) (m n : Nat) (hm : a.length = m) (hn : a.length + b.length = n) :
    slice (a ++ b ++ c) m n = b := by
  rw [slice, List.take_left' (by rw [List.length_append, hn]), List.drop_left' hm]

/-- The payload stands at offset 4 (R60). -/
theorem slice_frame_payload (t : CrcTable) (cmd : Byte) (payload : List Byte) :
    slice (frame t cmd payload) 4 (4 + payload.length) = payload := by
  have parts : frame t cmd payload =
      (MARK_START :: cmd :: le16 (BitVec.ofNat 16 payload.length)) ++ payload ++
        (le16 (checksum t (checkedSlice cmd payload)) ++ [MARK_END]) := by
    simp [frame_eq_cons, le16]
  rw [parts]
  exact slice_append_middle _ payload _ _ _ rfl rfl

/-- Command, length field and payload fill offsets 1 to `3 + L` (R65). -/
theorem slice_frame_checkedSlice (t : CrcTable) (cmd : Byte) (payload : List Byte) :
    slice (frame t cmd payload) 1 (4 + payload.length) = checkedSlice cmd payload := by
  have parts : frame t cmd payload =
      [MARK_START] ++ checkedSlice cmd payload ++ (le16 (checksum t (checkedSlice cmd payload)) ++ [MARK_END]) := by
    simp [frame]
  rw [parts]
  exact slice_append_middle _ _ _ _ _ rfl (by simp [checkedSlice]; omega)

/-- What follows the payload of a frame: the checksum, low byte first, and the end marker (R60, R64). -/
theorem frame_getElem?_trailer (t : CrcTable) (cmd : Byte) (payload : List Byte) (k : Nat) :
    (frame t cmd payload)[4 + k + payload.length]? =
      (le16 (checksum t (checkedSlice cmd payload)) ++ [MARK_END])[k]? := by
  have index : 4 + k + payload.length = payload.length + k + 1 + 1 + 1 + 1 := by omega
  rw [frame_eq_cons, index]
  simp only [List.getElem?_cons_succ]
  rw [List.getElem?_append_right (Nat.le_add_right _ _), Nat.add_sub_cancel_left]

/-- A well-formed builder frames at most `DATA_MAX` bytes (R9, R113). -/
theorem framed_length_le (i : Instr) (cmd : Byte) (payload : List Byte) (hf : i.framed = some (cmd, payload))
    (hw : i.wf = true) : payload.length ≤ 128 := by
  cases i with
  | buildStart => cases hf; decide
  | buildInfo md => cases hf; rw [infoPayload_length]; decide
  | buildData input n =>
    cases hf
    exact (List.length_take_le _ _).trans ((buildData_wf_iff input n).mp hw).1
  | buildStop => cases hf; decide
  | _ => cases hf

/-- The length field of a small payload is its length (R63). -/
theorem toNat_ofNat_length (payload : List Byte) (h : payload.length ≤ 128) :
    (BitVec.ofNat 16 payload.length).toNat = payload.length := by
  rw [BitVec.toNat_ofNat, Nat.mod_eq_of_lt (by omega)]

/-- The checksummed slice of a small payload: its length is the low byte, the high byte is zero (R65, R69). -/
theorem checkedSlice_of_small (cmd : Byte) (payload : List Byte) (h : payload.length ≤ 128) :
    checkedSlice cmd payload = [cmd, BitVec.ofNat 8 payload.length, 0x00] ++ payload := by
  have length : (BitVec.ofNat 16 payload.length).toNat = payload.length := toNat_ofNat_length payload h
  have low : lo8 (BitVec.ofNat 16 payload.length) = BitVec.ofNat 8 payload.length := by
    apply BitVec.eq_of_toNat_eq
    rw [toNat_lo8_of_small _ (by omega), length, BitVec.toNat_ofNat, Nat.mod_eq_of_lt (by omega)]
  rw [checkedSlice, le16, hi8_of_small _ (by omega), low]
  rfl

/-! ### Framing byte by byte -/

/-- The registers when the framing ends: what was framed, the checksum of the slice, and the count of the bytes of `OUT`, modulo
256 (R27, R28, R23). -/
def Regs.afterFrame (r : Regs) (t : CrcTable) (cmd : Byte) (payload : List Byte) : Regs :=
  { r with
    cmd := cmd
    plen := BitVec.ofNat 16 payload.length
    crc := checksum t (checkedSlice cmd payload)
    pos := BitVec.ofNat 8 (7 + payload.length) }

/-- The byte-serial framing leaves the frame in `OUT`, its registers as `Regs.afterFrame` says, and all else alone (R110). -/
theorem State.emitFrame_eq_afterFrame (s : State) (cmd : Byte) (payload : List Byte) :
    s.emitFrame cmd payload =
      { s with
        regs := s.regs.afterFrame s.config.crcTable cmd payload
        spaces := { s.spaces with out := some (frame s.config.crcTable cmd payload) } } := by
  have count : 1#8 + BitVec.ofNat 8 (2 + payload.length + 1) + 2#8 + 1#8 = BitVec.ofNat 8 (7 + payload.length) := by
    apply BitVec.eq_of_toNat_eq
    simp
    omega
  unfold State.emitFrame
  dsimp only
  rw [State.emitFedAll_eq _ _ [MARK_START] (by simp), State.emitAll_eq _ _ _ rfl]
  simp [State.emit, State.loadSeed, State.beginFrame, Regs.afterFrame, frame, checkedSlice, checksum, ← count]

end Sys2Proof.Machine

namespace Sys2Proof.Proofs

open Sys2Proof Sys2Proof.Machine

/-- Settles O20: the packet is the frame of the payload, and a frame has each part at its offset. -/
theorem builtPacketInvariants : Obligations.BuiltPacketInvariants := by
  intro i s cmd payload hw ht hf
  have small : payload.length ≤ 128 := framed_length_le i cmd payload hf hw
  have trailer := frame_getElem?_trailer s.config.crcTable cmd payload
  refine ⟨_, frame s.config.crcTable cmd payload, exec_framed i s cmd payload hf hw ht, rfl, s.conclude_leaves _,
    frame_length _ _ _, ?bound, rfl, rfl, ?lengthField, slice_frame_payload _ _ _, ?checksumField, trailer 2⟩
  case bound => rw [frame_length]; omega
  case lengthField => exact ⟨_, _, rfl, rfl, by rw [fromLe16_lo8_hi8, toNat_ofNat_length payload small]⟩
  case checksumField => exact ⟨_, _, trailer 0, trailer 1, by rw [fromLe16_lo8_hi8, slice_frame_checkedSlice]⟩

/-- Settles O21: the state after the framing, with the slice of a small payload written out. -/
theorem framingByteByByteFillsOut : Obligations.FramingByteByByteFillsOut := by
  intro s cmd payload small t slice
  have checked : checkedSlice cmd payload = slice := checkedSlice_of_small cmd payload small
  have ht : t = _ := s.emitFrame_eq_afterFrame cmd payload
  rw [ht, ← checked]
  refine ⟨rfl, rfl, toNat_ofNat_length payload small, rfl, ?pos, rfl⟩
  case pos => exact (BitVec.toNat_ofNat _ _).trans (Nat.mod_eq_of_lt (by omega))

end Sys2Proof.Proofs
end

section
/-! PROOF. The Response Interpreter (spec/42_response_interpreter.md R131 to R138): a parse reads at most its first eight bytes, and
the checks on those eight bytes give its outcome. -/

namespace Sys2Proof.Machine

open Sys2Proof

/-! ### The bytes a parse reads -/

/-- Fewer than eight bytes are `Malformed`, whatever they are (R131). -/
theorem parseOutcome_short (t : CrcTable) (strict : Bool) (raw : List Byte) (h : raw.length < 8) :
    parseOutcome t strict raw = .error .malformed := by
  rw [parseOutcome, (rspBytes_eq_none raw).mpr h]

/-- The status byte of a response is the byte at offset 4 (R71). -/
theorem rspBytes_status (raw : List Byte) (c : Byte) (f : RspFields) (h : rspBytes raw = some (c, f)) :
    raw[4]? = some f.status := by
  unfold rspBytes at h
  split at h
  · cases h
    rfl
  · cases h

/-- The eight bytes of a response, in wire order, are read back as its fields (R71, R131). -/
theorem rspBytes_raw (f : RspFields) (c : Byte) : rspBytes (f.raw c) = some (c, f) := rfl

/-- What follows the first eight bytes is not read (R137). -/
theorem rspBytes_append (raw extra : List Byte) (h : 8 ≤ raw.length) : rspBytes (raw ++ extra) = rspBytes raw := by
  have long : rspBytes raw ≠ none := fun hn => absurd ((rspBytes_eq_none raw).mp hn) (Nat.not_lt.mpr h)
  unfold rspBytes at long ⊢
  split at long
  · rfl
  · exact absurd rfl long

/-- What follows the first eight bytes does not change the outcome (R137). -/
theorem parseOutcome_append (t : CrcTable) (strict : Bool) (raw extra : List Byte) (h : 8 ≤ raw.length) :
    parseOutcome t strict (raw ++ extra) = parseOutcome t strict raw := by
  rw [parseOutcome, parseOutcome, rspBytes_append raw extra h]

/-- A parse of eight bytes or more yields what interpreting the first eight gives (R130, R137). -/
theorem yields_interpretOutcome (s : State) (raw : List Byte) (c : Byte) (f : RspFields) (h : ParseReady s)
    (hr : rspBytes raw = some (c, f)) :
    Yields (.parseResponse raw) s (interpretOutcome s.config.crcTable s.config.strict c f) := by
  have hy := yields_parseOutcome (.parseResponse raw) raw s rfl h
  rwa [parseOutcome, hr] at hy

/-! ### The command byte and the status -/

/-- A defined command byte is the wire code of a kind (R62). -/
theorem exists_kind_of_definedCode (b : Byte) (h : definedCode b) : ∃ k : CommandKind, b = k.code := by
  obtain h | h | h | h := h
  exacts [⟨.start, h⟩, ⟨.info, h⟩, ⟨.firmwareData, h⟩, ⟨.stop, h⟩]

/-- In strict mode wrong framing is `Malformed` whatever the command byte is (R133, R187). -/
theorem interpretOutcome_strict_unframed (t : CrcTable) (c : Byte) (f : RspFields)
    (hf : framingOk f.startMark (fromLe16 f.lenLow f.lenHigh) f.endMark = false) :
    interpretOutcome t true c f = .error .malformed := by
  cases hk : kindOfCode c with
  | none => exact interpretOutcome_undefined t true c f hk
  | some k =>
    obtain rfl := code_of_kindOfCode c k hk
    exact interpretOutcome_unframed t k f hf

/-- A decoded `Nack` code is never `0x00` (R21, R72). -/
theorem decodeStatus_wf (b : Byte) : (decodeStatus b).wf = true := by
  unfold decodeStatus
  split_ifs with h
  · rfl
  · exact bne_iff_ne.mpr h

/-- The status of a response is its status byte, decoded (R136). -/
theorem interpretOutcome_response_status (t : CrcTable) (strict : Bool) (c : Byte) (f : RspFields) (k : CommandKind)
    (st : AckStatus) (h : interpretOutcome t strict c f = .ok (.response k st)) : st = decodeStatus f.status := by
  cases hk : kindOfCode c with
  | none => cases (interpretOutcome_undefined t strict c f hk).symm.trans h
  | some k' =>
    rw [interpretOutcome, hk] at h
    dsimp only at h
    split_ifs at h
    cases h
    rfl

/-- The status of a parse that succeeds is the byte at offset 4, decoded (R136). -/
theorem parseOutcome_response_status (t : CrcTable) (strict : Bool) (raw : List Byte) (v : Byte) (k : CommandKind)
    (st : AckStatus) (hv : raw[4]? = some v) (h : parseOutcome t strict raw = .ok (.response k st)) :
    st = decodeStatus v := by
  unfold parseOutcome at h
  split at h
  case h_1 => cases h
  case h_2 c f hr =>
    have hstatus : f.status = v := Option.some.inj ((rspBytes_status raw c f hr).symm.trans hv)
    exact hstatus ▸ interpretOutcome_response_status t strict c f k st h

/-! ### A response built by the framer -/

/-- The bytes, other than the command byte, of the frame of one status byte (R71, R138). -/
def responseOf (t : CrcTable) (k : CommandKind) (ss : Byte) : RspFields :=
  let crc := checksum t [k.code, 0x01, 0x00, ss]
  ⟨MARK_START, 0x01, 0x00, ss, lo8 crc, hi8 crc, MARK_END⟩

/-- The frame of one status byte is an eight-byte response (R71). -/
theorem frame_eq_responseOf_raw (t : CrcTable) (k : CommandKind) (ss : Byte) :
    frame t k.code [ss] = (responseOf t k ss).raw k.code := by
  have checked : checkedSlice k.code [ss] = [k.code, 0x01, 0x00, ss] := checkedSlice_of_small k.code [ss] (by simp)
  rw [frame, checked]
  rfl

/-- The frame of one status byte carries its own checksum (R65, R138). -/
theorem responseOf_agrees (t : CrcTable) (k : CommandKind) (ss : Byte) : responseAgrees t k.code (responseOf t k ss) :=
  fromLe16_lo8_hi8 (checksum t [k.code, 0x01, 0x00, ss])

end Sys2Proof.Machine

namespace Sys2Proof.Proofs

open Sys2Proof Sys2Proof.Machine

/-- Settles O22: such a parse has no eight bytes to read. -/
theorem shortResponseIsMalformed : Obligations.ShortResponseIsMalformed := by
  intro s raw h hl
  rw [← parseOutcome_short s.config.crcTable s.config.strict raw hl]
  exact yields_parseOutcome (.parseResponse raw) raw s rfl h

/-- Settles O23: in lenient mode the outcome turns on the command byte alone, and its status on the status byte. -/
theorem lenientReadsTwoBytes : Obligations.LenientReadsTwoBytes := by
  intro s b0 b1 b2 b3 b4 b5 b6 b7 rest hs raw
  have ready : ParseReady s := fun h => by rw [hs] at h; cases h
  have hy := yields_interpretOutcome s raw b1 ⟨b0, b2, b3, b4, b5, b6, b7⟩ ready rfl
  refine ⟨?definedByte, undefinedCommandCodes.1 s raw b1 ready rfl⟩
  case definedByte =>
    rintro k rfl
    rwa [hs, interpretOutcome_lenient] at hy

/-- Settles O24: one clause for each check of strict mode, in their order. -/
theorem strictChecksInOrder : Obligations.StrictChecksInOrder := by
  intro s b0 b1 b2 b3 b4 b5 b6 b7 rest hs ht raw framed agrees
  let f : RspFields := ⟨b0, b2, b3, b4, b5, b6, b7⟩
  have ready : ParseReady s := fun _ => ht
  have hy := yields_interpretOutcome s raw b1 f ready rfl
  have hframed : framingOk f.startMark (fromLe16 f.lenLow f.lenHigh) f.endMark = true ↔ framed := framingOk_iff f
  rw [hs] at hy
  refine ⟨fun hf => ?framing, fun _ => undefinedCommandCodes.1 s raw b1 ready rfl, fun hf hd hc => ?checksum, ?ok⟩
  case framing => rwa [interpretOutcome_strict_unframed _ b1 f (Bool.eq_false_iff.mpr (mt hframed.mp hf))] at hy
  case checksum =>
    obtain ⟨k, rfl⟩ := exists_kind_of_definedCode b1 hd
    rwa [interpretOutcome_mismatch s.config.crcTable k f (hframed.mpr hf) hc] at hy
  case ok =>
    rintro k hf rfl hc
    rwa [interpretOutcome_ok s.config.crcTable k f true (hframed.mpr hf) hc] at hy

/-- Settles O25: the status of a response is the byte at offset 4, decoded. -/
theorem statusByteIsTheNackCode : Obligations.StatusByteIsTheNackCode := by
  intro s t raw v k st hv hx hr
  rw [result_of_exec_next _ s t hx] at hr
  obtain rfl := parseOutcome_response_status _ _ raw v k st hv (Option.some.inj hr)
  exact ⟨rfl, decodeStatus_wf v⟩

/-- Settles O26: the two parses have one outcome, or both are refused before the table is initialised. -/
theorem surplusBytesAreIgnored : Obligations.SurplusBytesAreIgnored := by
  intro s raw extra h
  by_cases ready : ParseReady s
  · rw [exec_parseResponse_ready _ s ready, exec_parseResponse_ready _ s ready, parseOutcome_append _ _ raw extra h]
  · obtain ⟨hs, ht⟩ : s.config.strict = true ∧ s.tableReady = false := by simpa [ParseReady] using ready
    exact (interpretRaw_refused _ s hs ht).trans (interpretRaw_refused raw s hs ht).symm

/-- Settles O27: the frame of a status byte has the framing of a response and its own checksum, so both modes accept it. -/
theorem responseRoundTrip : Obligations.ResponseRoundTrip := by
  intro s k ss h
  rw [frame_eq_responseOf_raw]
  have framed := (framingOk_iff (responseOf s.config.crcTable k ss)).mpr ⟨rfl, ⟨rfl, rfl⟩, rfl⟩
  have hy := yields_interpretOutcome s _ _ _ h (rspBytes_raw (responseOf s.config.crcTable k ss) k.code)
  rwa [interpretOutcome_ok _ k _ _ framed (responseOf_agrees _ k ss)] at hy

end Sys2Proof.Proofs
end

section
/-! PROOF. The driver's operations, an equation for each case of each (spec/43_session_controller.md R154 to R166); the inversion of
a driver's step, `driverStep_next`, is made of them. -/

namespace Sys2Proof.Machine

open Sys2Proof

section
variable (s : State)

/-! ### Which operation a step of the driver is -/

/-- In a quiet state it is the driver that moves (R50). -/
theorem step_of_quiet (h : s.quiet) : step s = driverStep s := by
  obtain ⟨hreset, hrequests, -, -⟩ := h
  exact step_driver s hreset hrequests

/-- With an outcome to take it is the driver that moves (R50). -/
theorem step_of_answered (o : OpOutcome) (h : s.answered o) : step s = driverStep s := by
  obtain ⟨hreset, hrequests, -, -⟩ := h
  exact step_driver s hreset hrequests

/-- Once the outcome is taken nothing stands at the block (R24). -/
theorem State.answered.quiet_takeResult {s : State} {o : OpOutcome} (h : s.answered o) : s.takeResult.quiet := by
  obtain ⟨hreset, hrequests, -, htable⟩ := h
  exact ⟨hreset, hrequests, rfl, htable⟩

theorem driverStep_rest (h : s.driver.act = .rest) : driverStep s = .next (driverRest s) := by simp [driverStep, h]

theorem driverStep_build (h : s.driver.act = .build) : driverStep s = .next (driverBuild s) := by simp [driverStep, h]

theorem driverStep_awaitPacket (h : s.driver.act = .awaitPacket) : driverStep s = driverTakePacket s := by
  simp [driverStep, h]

theorem driverStep_listen (h : s.driver.act = .listen) : driverStep s = .next (driverListen s) := by simp [driverStep, h]

theorem driverStep_awaitParse (h : s.driver.act = .awaitParse) : driverStep s = driverTakeParse s := by
  simp [driverStep, h]

/-! ### At rest -/

theorem driverRest_outcome (o : OpOutcome) (h : s.result = some o) : driverRest s = s.takeResult := by
  simp [driverRest, h]

theorem driverRest_nil (h : s.result = none) (ht : s.driver.tasks = []) : driverRest s = s := by
  simp [driverRest, h, ht]

theorem driverRest_request (r : Request) (rest : List Task) (h : s.result = none) (ht : s.driver.tasks = .request r :: rest) :
    driverRest s =
      { s with
        requests := s.requests ++ [r]
        driver := { s.driver with tasks := rest, heldRaw := (requestRaw r).or s.driver.heldRaw } } := by
  simp [driverRest, h, ht, State.withDriver]

/-- The driver at the start of a session: in `Idle`, with nothing acknowledged (R150, R152). -/
def Driver.starting (source : FirmwareSource) (metadata : FirmwareMetadata) (tasks : List Task) : Driver :=
  { phase := .idle, act := .build, offset := 0, source := source, metadata := metadata, retries := 0, waited := 0,
    progress := [], tasks := tasks, heldRaw := none }

theorem driverRest_session (source : FirmwareSource) (metadata : FirmwareMetadata) (rest : List Task) (h : s.result = none)
    (ht : s.driver.tasks = .session source metadata :: rest) :
    driverRest s = s.withDriver (Driver.starting source metadata rest) := by
  simp [driverRest, h, ht, Driver.starting]

/-! ### The chunk at the present offset -/

variable (d : Driver)

/-- `offset'`, once the chunk at the present offset is acknowledged (R158). -/
def Driver.nextOffset : Word := d.offset + BitVec.ofNat 32 d.chunkLen

/-- The chunk ends within the image (R157). -/
theorem Driver.offset_add_chunkLen_le (h : d.offset.toNat ≤ d.source.size.toNat) :
    d.offset.toNat + d.chunkLen ≤ d.source.size.toNat := by
  unfold Driver.chunkLen chunkLength
  omega

/-- `offset + n` does not overflow (R158). -/
theorem Driver.toNat_nextOffset (h : d.offset.toNat ≤ d.source.size.toNat) :
    d.nextOffset.toNat = d.offset.toNat + d.chunkLen := by
  have within := d.offset_add_chunkLen_le h
  have bound := d.source.size.isLt
  rw [Driver.nextOffset, BitVec.toNat_add, BitVec.toNat_ofNat, Nat.mod_eq_of_lt (by omega : d.chunkLen < 2 ^ 32),
    Nat.mod_eq_of_lt (by omega)]

/-- A chunk length fits the operand `chunkLen` of `BUILD_DATA` (R113, R157). -/
theorem Driver.toNat_ofNat_chunkLen : (BitVec.ofNat 16 d.chunkLen).toNat = d.chunkLen := by
  have small : d.chunkLen ≤ 128 := chunkLength_le _ _
  rw [BitVec.toNat_ofNat, Nat.mod_eq_of_lt (by omega)]

/-- The source serves the chunk in full (R157, R214). -/
theorem Driver.chunk_length (hw : d.source.wf = true) (h : d.offset.toNat ≤ d.source.size.toNat) :
    d.chunk.length = d.chunkLen := bytesAt_length _ _ _ hw (d.offset_add_chunkLen_le h)

/-- The chunk is the next bytes of the image (R157). -/
theorem Driver.chunk_eq : d.chunk = (d.source.bytes.drop d.offset.toNat).take d.chunkLen := by
  rw [Driver.chunk, FirmwareSource.bytesAt, slice, List.drop_take, Nat.add_sub_cancel_left]

/-- The chunk is all that `BUILD_DATA` frames of it (R113, R157). -/
theorem Driver.framed_chunk (hw : d.source.wf = true) (h : d.offset.toNat ≤ d.source.size.toNat) :
    (Instr.buildData d.chunk (BitVec.ofNat 16 d.chunkLen)).framed = some (CMD_DATA, d.chunk) := by
  rw [Instr.framed, d.toNat_ofNat_chunkLen, List.take_of_length_le (Nat.le_of_eq (d.chunk_length hw h))]

/-! ### Building -/

/-- The request for the packet that the session state sends, where it sends one (R154, R156, R157, R160). -/
def Driver.toBuild : Option Instr :=
  match d.phase with
  | .idle => some .buildStart
  | .awaitingInfoAck => some (.buildInfo d.metadata)
  | .sendingData =>
    if d.offset = d.source.size then none else some (.buildData d.chunk (BitVec.ofNat 16 d.chunkLen))
  | .awaitingStopAck => some .buildStop
  | _ => none

theorem Driver.toBuild_idle (h : d.phase = .idle) : d.toBuild = some .buildStart := by simp [Driver.toBuild, h]

theorem Driver.toBuild_info (h : d.phase = .awaitingInfoAck) : d.toBuild = some (.buildInfo d.metadata) := by
  simp [Driver.toBuild, h]

theorem Driver.toBuild_chunk (h : d.phase = .sendingData) (ho : d.offset ≠ d.source.size) :
    d.toBuild = some (.buildData d.chunk (BitVec.ofNat 16 d.chunkLen)) := by simp [Driver.toBuild, h, ho]

theorem Driver.toBuild_stop (h : d.phase = .awaitingStopAck) : d.toBuild = some .buildStop := by
  simp [Driver.toBuild, h]

variable {d} in
/-- Where there is a packet to ask for, the driver can await it (R163). -/
theorem Driver.allows_awaitPacket_of_toBuild {i : Instr} (h : d.toBuild = some i) : d.phase.allows .awaitPacket = true := by
  unfold Driver.toBuild at h
  split at h
  case h_1 hp | h_2 hp | h_3 hp | h_4 hp =>
    rw [hp]
    rfl
  case h_5 => cases h

variable {d} in
/-- What the driver asks for is a builder that keeps its contract (R116, R157). -/
theorem Driver.toBuild_sound {i : Instr} (h : d.toBuild = some i) (hw : d.source.wf = true)
    (ho : d.offset.toNat ≤ d.source.size.toNat) : i.isBuilder = true ∧ i.wf = true := by
  unfold Driver.toBuild at h
  split at h
  case h_3 =>
    split_ifs at h
    cases h
    refine ⟨rfl, (buildData_wf_iff _ _).mpr ?_⟩
    rw [d.toNat_ofNat_chunkLen, d.chunk_length hw ho]
    exact ⟨chunkLength_le _ _, Nat.le_refl _⟩
  case h_1 | h_2 | h_4 =>
    cases h
    exact ⟨rfl, rfl⟩
  case h_5 => cases h

variable {d} in
/-- A chunk is asked for only while the image is not whole (R157). -/
theorem Driver.offset_ne_of_toBuild {i : Instr} (h : d.toBuild = some i) (hp : d.phase = .sendingData) :
    d.offset ≠ d.source.size := by
  intro ho
  simp [Driver.toBuild, hp, ho] at h

theorem driverBuild_ask (i : Instr) (h : s.driver.toBuild = some i) : driverBuild s = s.ask i .awaitPacket := by
  unfold Driver.toBuild at h
  unfold driverBuild
  split at h
  case h_3 hp =>
    split_ifs at h with ho
    cases h
    simp [hp, ho]
  case h_1 hp | h_2 hp | h_4 hp =>
    cases h
    simp [hp]
  case h_5 => cases h

theorem driverBuild_wholeImage (hp : s.driver.phase = .sendingData) (ho : s.driver.offset = s.driver.source.size) :
    driverBuild s = s.goto .awaitingStopAck .build := by simp [driverBuild, hp, ho]

/-- Where no packet is to be sent, the driver goes on to STOP or stays as it is (R157). -/
theorem driverBuild_none (h : s.driver.toBuild = none) :
    (s.driver.phase = .sendingData ∧ s.driver.offset = s.driver.source.size) ∨ driverBuild s = s := by
  unfold Driver.toBuild at h
  unfold driverBuild
  cases hp : s.driver.phase with
  | sendingData => exact .inl ⟨rfl, by simpa [hp] using h⟩
  | _ => simp [hp] at h ⊢

/-! ### Writing -/

/-- The driver's next write succeeds, or it fails after so many bytes (R151, U20). -/
theorem State.writeSucceeds_or_fails : s.writeSucceeds ∨ ∃ k rest, s.transport.writes = .failed k :: rest := by
  unfold State.writeSucceeds
  cases s.transport.writes with
  | nil => exact .inl (.inl rfl)
  | cons w rest =>
    cases w with
    | done => exact .inl (.inr ⟨rest, rfl⟩)
    | failed k => exact .inr ⟨k, rest, rfl⟩

/-- The transport after a write of the whole packet (R151; log 13). -/
def Transport.wrote (t : Transport) (p : List Byte) : Transport :=
  { t with sent := t.sent ++ [p], writes := t.writes.tail }

/-- The transport after a write that has failed, with the part it has sent and the writes then to come (U20; log 13). -/
def Transport.wrotePart (t : Transport) (part : List Byte) (writes : List WriteResult) : Transport :=
  { t with sent := t.sent ++ [part], writes := writes }

/-- The machine with the transport that a read or a write leaves (R151). -/
def State.withTransport (t : Transport) : State := { s with transport := t }

/-- The driver once its packet is written: it waits for the response, or is done (R154 to R160). -/
def Driver.written : Driver := { d with phase := d.phase.afterWrite, act := d.phase.actAfterWrite, waited := 0 }

/-- What the driver does next is to wait for the response, or nothing. -/
theorem Phase.actAfterWrite_ne_awaitParse (p : Phase) : p.actAfterWrite ≠ .awaitParse := by cases p <;> exact nofun

theorem Driver.written_idle (h : d.phase = .idle) :
    d.written = { d.moved .awaitingStartAck .listen with waited := 0 } := by rw [Driver.written, h]; rfl

theorem Driver.written_info (h : d.phase = .awaitingInfoAck) :
    d.written = { d.moved .awaitingInfoAck .listen with waited := 0 } := by rw [Driver.written, h]; rfl

theorem Driver.written_chunk (h : d.phase = .sendingData) :
    d.written = { d.moved .awaitingDataAck .listen with waited := 0 } := by rw [Driver.written, h]; rfl

theorem Driver.written_stop (h : d.phase = .awaitingStopAck) :
    d.written = { d.moved .completed .rest with waited := 0 } := by rw [Driver.written, h]; rfl

theorem State.transmit_done (p : List Byte) (h : s.writeSucceeds) :
    s.transmit p = { s with transport := s.transport.wrote p, driver := s.driver.written } := by
  unfold State.transmit
  rw [Transport.write_done _ p h]
  rfl

theorem State.transmit_failed (p : List Byte) (k : Nat) (rest : List WriteResult)
    (h : s.transport.writes = .failed k :: rest) :
    s.transmit p =
      (s.withTransport (s.transport.wrotePart (p.take k) rest)).abort .transportError := by
  simp [State.transmit, Transport.write, h, State.withTransport, Transport.wrotePart]

theorem driverTakePacket_none (h : s.result = none) : driverTakePacket s = .next s := by simp [driverTakePacket, h]

theorem driverTakePacket_packet (p : List Byte) (h : s.result = some (.ok (.packet p))) :
    driverTakePacket s = .next (s.takeResult.transmit p) := by simp [driverTakePacket, h]

/-! ### Reading -/

theorem driverListen_bytes (b : List Byte) (u : Transport) (h : s.transport.nextRead = (.bytes b, u)) :
    driverListen s = (s.withTransport u).ask (.parseResponse b) .awaitParse := by
  simp [driverListen, h, State.withTransport]

theorem driverListen_failed (u : Transport) (h : s.transport.nextRead = (.failed, u)) :
    driverListen s = (s.withTransport u).abort .transportError := by simp [driverListen, h, State.withTransport]

/-! ### Taking the outcome of a parse -/

theorem driverIgnore_unbounded (h : s.config.waitBound = none) :
    driverIgnore s = s.withDriver { s.driver with act := .listen, waited := s.driver.waited + 1 } := by
  simp [driverIgnore, h]

theorem driverIgnore_bounded (bound : Nat) (h : s.config.waitBound = some bound) :
    driverIgnore s =
      if Config.waitElapsed bound (s.driver.waited + 1) then
        s.withDriver { s.driver with phase := .aborted .timeout, act := .rest, waited := s.driver.waited + 1 }
      else s.withDriver { s.driver with act := .listen, waited := s.driver.waited + 1 } := by
  simp [driverIgnore, h]
  rfl

theorem driverUnparsed_retry (e : ParseError) (h : s.config.onMalformed = .retry) :
    driverUnparsed e s = driverIgnore s := by simp [driverUnparsed, h]

theorem driverUnparsed_abort (e : ParseError) (h : s.config.onMalformed = .abort) :
    driverUnparsed e s = s.abort (.unparsed e) := by simp [driverUnparsed, h]

/-- The driver once a chunk is acknowledged: `offset'`, the retries forgotten, the report made, and STOP or the next chunk to
build (R158, R162; log 15, log 18). -/
def Driver.chunkAcked (c : Config) : Driver :=
  { d with
    offset := d.nextOffset
    retries := 0
    progress := if c.reportsProgress then d.progress ++ [(d.nextOffset, d.source.size)] else d.progress
    phase := if d.nextOffset = d.source.size then .awaitingStopAck else .sendingData
    act := .build }

/-- After an acknowledged chunk the image is whole and STOP is to be built, or the next chunk is (R158). -/
theorem Driver.chunkAcked_phase (c : Config) :
    ((d.chunkAcked c).phase = .awaitingStopAck ∧ d.nextOffset = d.source.size) ∨ (d.chunkAcked c).phase = .sendingData := by
  by_cases whole : d.nextOffset = d.source.size
  · exact .inl ⟨if_pos whole, whole⟩
  · exact .inr (if_neg whole)

theorem driverChunkAcked_eq : driverChunkAcked s = s.withDriver (s.driver.chunkAcked s.config) := by
  unfold driverChunkAcked Driver.report Driver.chunkAcked Driver.nextOffset
  dsimp only
  split_ifs <;> rfl

theorem driverAck_start (h : s.driver.phase = .awaitingStartAck) : driverAck s = s.goto .awaitingInfoAck .build := by
  simp [driverAck, h]

theorem driverAck_info (h : s.driver.phase = .awaitingInfoAck) :
    driverAck s = s.withDriver { s.driver with phase := .sendingData, act := .build, offset := 0 } := by
  simp [driverAck, h]

theorem driverAck_data (h : s.driver.phase = .awaitingDataAck) :
    driverAck s = s.withDriver (s.driver.chunkAcked s.config) := by simp [driverAck, h, driverChunkAcked_eq]

theorem driverNack_retry (code : Byte) (h : s.driver.phase = .awaitingDataAck)
    (hr : s.driver.retries < s.config.retryMax) :
    driverNack code s =
      s.withDriver { s.driver with phase := .sendingData, act := .build, retries := s.driver.retries + 1 } := by
  simp [driverNack, h, driverChunkRefused, hr]

/-- Outside `AwaitingDataAck`, or with no retry left, a Nack ends the session (R156, R157, R159). -/
theorem driverNack_abort (code : Byte)
    (h : s.driver.phase = .awaitingDataAck → s.config.retryMax ≤ s.driver.retries) :
    driverNack code s = s.abort (.nack code) := by
  unfold driverNack driverChunkRefused
  split_ifs with hp hr
  · exact absurd (h hp) (Nat.not_le.mpr hr)
  · rfl
  · rfl

theorem driverTakeParse_none (h : s.result = none) : driverTakeParse s = .next s := by simp [driverTakeParse, h]

theorem driverTakeParse_ack (k : CommandKind) (h : s.result = some (.ok (.response k .ack)))
    (hk : s.driver.phase.awaited = some k) : driverTakeParse s = .next (driverAck s.takeResult) := by
  simp [driverTakeParse, h, hk]

theorem driverTakeParse_nack (k : CommandKind) (code : Byte) (h : s.result = some (.ok (.response k (.nack code))))
    (hk : s.driver.phase.awaited = some k) : driverTakeParse s = .next (driverNack code s.takeResult) := by
  simp [driverTakeParse, h, hk]

theorem driverTakeParse_other (k : CommandKind) (st : AckStatus) (h : s.result = some (.ok (.response k st)))
    (hk : s.driver.phase.awaited ≠ some k) : driverTakeParse s = .next (driverIgnore s.takeResult) := by
  simp [driverTakeParse, h, hk]

theorem driverTakeParse_error (e : ParseError) (h : s.result = some (.error e)) :
    driverTakeParse s = .next (driverUnparsed e s.takeResult) := by simp [driverTakeParse, h]

end

end Sys2Proof.Machine
end

section
/-! PROOF. What one step of the driver can do (spec/43_session_controller.md R154 to R164): `driverStep_next` says it once, guards
included. The claims about every step are read off its cases. -/

namespace Sys2Proof.Machine

open Sys2Proof

/-- What stands to be taken is an outcome, and no response for the awaited command (R155). -/
def State.unawaited (s : State) : Prop :=
  ∃ o, s.result = some o ∧ ∀ k st, o = .ok (.response k st) → s.driver.phase.awaited ≠ some k

/-- One step of the driver from `s`, by what it does. -/
inductive DriverMove (s : State) : State → Prop
  /-- At rest there is nothing to do (R23; log 5). -/
  | rest : s.driver.act = .rest → s.result = none → s.driver.tasks = [] → DriverMove s s
  /-- The session state sends no packet. -/
  | noPacket : s.driver.act = .build → s.driver.toBuild = none → DriverMove s s
  /-- After a reset there is no outcome to take (R163, R212; log 11). -/
  | wait : s.driver.act = .awaitPacket ∨ s.driver.act = .awaitParse → s.result = none → DriverMove s s
  /-- At rest, the outcome of a direct request is taken and dropped (R24). -/
  | drop (o : OpOutcome) : s.driver.act = .rest → s.result = some o → DriverMove s s.takeResult
  /-- The next direct request is put at the block (R168). -/
  | request (r : Request) (rest : List Task) : s.driver.act = .rest → s.result = none →
      s.driver.tasks = .request r :: rest →
      DriverMove s { s with
        requests := s.requests ++ [r]
        driver := { s.driver with tasks := rest, heldRaw := (requestRaw r).or s.driver.heldRaw } }
  /-- The next session starts (R150). -/
  | session (source : FirmwareSource) (metadata : FirmwareMetadata) (rest : List Task) : s.driver.act = .rest →
      s.result = none → s.driver.tasks = .session source metadata :: rest →
      DriverMove s (s.withDriver (Driver.starting source metadata rest))
  /-- The packet of the session state is asked for (R154, R156, R157, R160). -/
  | ask (i : Instr) : s.driver.act = .build → s.driver.toBuild = some i → DriverMove s (s.ask i .awaitPacket)
  /-- The whole image is acknowledged: STOP comes next (R157). -/
  | wholeImage : s.driver.act = .build → s.driver.phase = .sendingData → s.driver.offset = s.driver.source.size →
      DriverMove s (s.goto .awaitingStopAck .build)
  /-- The packet is written (R154 to R160). -/
  | write (p : List Byte) : s.driver.act = .awaitPacket → s.result = some (.ok (.packet p)) → s.writeSucceeds →
      DriverMove s { s.takeResult with transport := s.transport.wrote p, driver := s.driver.written }
  /-- The write of the packet fails, a first part of it sent (R164). -/
  | writeFails (p : List Byte) (k : Nat) (rest : List WriteResult) : s.driver.act = .awaitPacket →
      s.result = some (.ok (.packet p)) → s.transport.writes = .failed k :: rest →
      DriverMove s ((s.takeResult.withTransport (s.transport.wrotePart (p.take k) rest)).abort .transportError)
  /-- A read is handed to the parse (R155). -/
  | read (b : List Byte) (u : Transport) : s.driver.act = .listen → s.transport.nextRead = (.bytes b, u) →
      DriverMove s ((s.withTransport u).ask (.parseResponse b) .awaitParse)
  /-- The read fails (R164). -/
  | readFails (u : Transport) : s.driver.act = .listen → s.transport.nextRead = (.failed, u) →
      DriverMove s ((s.withTransport u).abort .transportError)
  /-- The outcome does not end the wait: the driver reads again (R155). -/
  | ignore : s.driver.act = .awaitParse → s.unawaited →
      DriverMove s (s.takeResult.withDriver { s.driver with act := .listen, waited := s.driver.waited + 1 })
  /-- The outcome does not end the wait, and its bound has elapsed (R163). -/
  | timeout (bound : Nat) : s.driver.act = .awaitParse → s.unawaited → s.config.waitBound = some bound →
      Config.waitElapsed bound (s.driver.waited + 1) = true →
      DriverMove s (s.takeResult.withDriver
        { s.driver with phase := .aborted .timeout, act := .rest, waited := s.driver.waited + 1 })
  /-- The outcome does not parse, and that ends the session (R155; log 16). -/
  | unparsed (e : ParseError) : s.driver.act = .awaitParse → s.result = some (.error e) →
      s.config.onMalformed = .abort → DriverMove s (s.takeResult.abort (.unparsed e))
  /-- `(Start, Ack)` (R156). -/
  | startAck : s.driver.act = .awaitParse → s.driver.phase = .awaitingStartAck →
      s.result = some (.ok (.response .start .ack)) → DriverMove s (s.takeResult.goto .awaitingInfoAck .build)
  /-- `(Info, Ack)` (R157). -/
  | infoAck : s.driver.act = .awaitParse → s.driver.phase = .awaitingInfoAck →
      s.result = some (.ok (.response .info .ack)) →
      DriverMove s (s.takeResult.withDriver { s.driver with phase := .sendingData, act := .build, offset := 0 })
  /-- `(FirmwareData, Ack)` (R158). -/
  | chunkAck : s.driver.act = .awaitParse → s.driver.phase = .awaitingDataAck →
      s.result = some (.ok (.response .firmwareData .ack)) →
      DriverMove s (s.takeResult.withDriver (s.driver.chunkAcked s.config))
  /-- `(FirmwareData, Nack(c))` with a retry left (R159). -/
  | retry (code : Byte) : s.driver.act = .awaitParse → s.driver.phase = .awaitingDataAck →
      s.result = some (.ok (.response .firmwareData (.nack code))) → s.driver.retries < s.config.retryMax →
      DriverMove s (s.takeResult.withDriver
        { s.driver with phase := .sendingData, act := .build, retries := s.driver.retries + 1 })
  /-- A Nack of the awaited command ends the session, where no retry is left (R156, R157, R159). -/
  | nack (k : CommandKind) (code : Byte) : s.driver.act = .awaitParse → s.driver.phase.awaited = some k →
      s.result = some (.ok (.response k (.nack code))) →
      (s.driver.phase = .awaitingDataAck → s.config.retryMax ≤ s.driver.retries) → DriverMove s (s.takeResult.abort (.nack code))

section
variable (s t : State)

theorem driverRest_move (ha : s.driver.act = .rest) : DriverMove s (driverRest s) := by
  cases hr : s.result with
  | some o =>
    rw [driverRest_outcome s o hr]
    exact .drop o ha hr
  | none =>
    cases ht : s.driver.tasks with
    | nil =>
      rw [driverRest_nil s hr ht]
      exact .rest ha hr ht
    | cons k rest =>
      cases k with
      | request r =>
        rw [driverRest_request s r rest hr ht]
        exact .request r rest ha hr ht
      | session source metadata =>
        rw [driverRest_session s source metadata rest hr ht]
        exact .session source metadata rest ha hr ht

theorem driverBuild_move (ha : s.driver.act = .build) : DriverMove s (driverBuild s) := by
  cases hb : s.driver.toBuild with
  | some i =>
    rw [driverBuild_ask s i hb]
    exact .ask i ha hb
  | none =>
    obtain ⟨hp, ho⟩ | h := driverBuild_none s hb
    · rw [driverBuild_wholeImage s hp ho]
      exact .wholeImage ha hp ho
    · rw [h]
      exact .noPacket ha hb

theorem driverTakePacket_move (ha : s.driver.act = .awaitPacket) (h : driverTakePacket s = .next t) : DriverMove s t := by
  unfold driverTakePacket at h
  split at h
  case h_1 hr =>
    cases h
    exact .wait (.inl ha) hr
  case h_2 p hr =>
    cases h
    obtain hw | ⟨k, rest, hw⟩ := s.takeResult.writeSucceeds_or_fails
    · rw [State.transmit_done _ p hw]
      exact .write p ha hr hw
    · rw [State.transmit_failed _ p k rest hw]
      exact .writeFails p k rest ha hr hw
  case h_3 | h_4 | h_5 => cases h

theorem driverListen_move (ha : s.driver.act = .listen) : DriverMove s (driverListen s) := by
  cases hr : s.transport.nextRead with
  | mk r u =>
    cases r with
    | bytes b =>
      rw [driverListen_bytes s b u hr]
      exact .read b u ha hr
    | failed =>
      rw [driverListen_failed s u hr]
      exact .readFails u ha hr

theorem driverIgnore_move (ha : s.driver.act = .awaitParse) (hu : s.unawaited) : DriverMove s (driverIgnore s.takeResult) := by
  cases hb : s.config.waitBound with
  | none =>
    rw [driverIgnore_unbounded s.takeResult hb]
    exact .ignore ha hu
  | some bound =>
    rw [driverIgnore_bounded s.takeResult bound hb]
    split_ifs with elapsed
    · exact .timeout bound ha hu hb elapsed
    · exact .ignore ha hu

theorem driverUnparsed_move (e : ParseError) (ha : s.driver.act = .awaitParse) (hr : s.result = some (.error e)) :
    DriverMove s (driverUnparsed e s.takeResult) := by
  cases hc : s.config.onMalformed with
  | retry =>
    rw [driverUnparsed_retry s.takeResult e hc]
    exact driverIgnore_move s ha ⟨.error e, hr, nofun⟩
  | abort =>
    rw [driverUnparsed_abort s.takeResult e hc]
    exact .unparsed e ha hr hc

/-- The session states that await a response are the three of R156 to R158. -/
theorem Phase.awaited_eq_some {p : Phase} {k : CommandKind} (h : p.awaited = some k) :
    (p = .awaitingStartAck ∧ k = .start) ∨ (p = .awaitingInfoAck ∧ k = .info) ∨
      (p = .awaitingDataAck ∧ k = .firmwareData) := by
  cases p <;> cases h <;> simp

theorem driverAck_move (k : CommandKind) (ha : s.driver.act = .awaitParse)
    (hr : s.result = some (.ok (.response k .ack))) (hk : s.driver.phase.awaited = some k) :
    DriverMove s (driverAck s.takeResult) := by
  obtain ⟨hp, rfl⟩ | ⟨hp, rfl⟩ | ⟨hp, rfl⟩ := Phase.awaited_eq_some hk
  · rw [driverAck_start s.takeResult hp]
    exact .startAck ha hp hr
  · rw [driverAck_info s.takeResult hp]
    exact .infoAck ha hp hr
  · rw [driverAck_data s.takeResult hp]
    exact .chunkAck ha hp hr

theorem driverNack_move (k : CommandKind) (code : Byte) (ha : s.driver.act = .awaitParse)
    (hr : s.result = some (.ok (.response k (.nack code)))) (hk : s.driver.phase.awaited = some k) :
    DriverMove s (driverNack code s.takeResult) := by
  by_cases hretry : s.driver.phase = .awaitingDataAck ∧ s.driver.retries < s.config.retryMax
  · obtain ⟨hp, hlt⟩ := hretry
    obtain rfl : CommandKind.firmwareData = k := by simpa [hp, Phase.awaited] using hk
    rw [driverNack_retry s.takeResult code hp hlt]
    exact .retry code ha hp hr hlt
  · have spent (hp : s.driver.phase = .awaitingDataAck) : s.config.retryMax ≤ s.driver.retries :=
      Nat.not_lt.mp fun hlt => hretry ⟨hp, hlt⟩
    rw [driverNack_abort s.takeResult code spent]
    exact .nack k code ha hk hr spent

theorem driverTakeParse_move (ha : s.driver.act = .awaitParse) (h : driverTakeParse s = .next t) : DriverMove s t := by
  unfold driverTakeParse at h
  split at h
  case h_1 hr =>
    cases h
    exact .wait (.inr ha) hr
  case h_2 k status hr =>
    split_ifs at h with hk
    · cases status with
      | ack =>
        cases h
        exact driverAck_move s k ha hr hk
      | nack code =>
        cases h
        exact driverNack_move s k code ha hr hk
    · cases h
      refine driverIgnore_move s ha ⟨_, hr, ?_⟩
      rintro _ _ ⟨⟩
      exact hk
  case h_3 e hr =>
    cases h
    exact driverUnparsed_move s e ha hr
  case h_4 | h_5 => cases h

/-- A step of the driver that goes on is one of the moves. -/
theorem driverStep_next (h : driverStep s = .next t) : DriverMove s t := by
  unfold driverStep at h
  split at h
  case h_1 ha =>
    cases h
    exact driverRest_move s ha
  case h_2 ha =>
    cases h
    exact driverBuild_move s ha
  case h_3 ha => exact driverTakePacket_move s t ha h
  case h_4 ha =>
    cases h
    exact driverListen_move s ha
  case h_5 ha => exact driverTakeParse_move s t ha h

/-- A step from `s` to `t` is a move of the driver, or it leaves driver and transport as they are (R50, R54, R212). -/
theorem step_driverMove (h : step s = .next t) :
    DriverMove s t ∨ (t.driver = s.driver ∧ t.transport = s.transport) := by
  obtain ⟨-, rfl⟩ | ⟨r, i, -, -, -, -, he⟩ | ⟨-, -, hd⟩ := step_next s t h
  · exact .inr ⟨rfl, rfl⟩
  · obtain ⟨o, rfl⟩ := exec_next i s t he
    exact .inr ⟨rfl, rfl⟩
  · exact .inl (driverStep_next s t hd)

end

end Sys2Proof.Machine

namespace Sys2Proof.Proofs

open Sys2Proof Sys2Proof.Machine

/-- Settles O43: the moves from a wait to a build are the three acknowledgements and the retry of a refused chunk. -/
theorem onlyTheAwaitedResponseEndsTheWait : Obligations.OnlyTheAwaitedResponseEndsTheWait := by
  intro s t h hwait hbuild
  obtain hmove | ⟨hdriver, -⟩ := step_driverMove s t h
  · cases hmove with
    | startAck ha hp hr => exact ⟨.start, .ack, ha, hr, by rw [hp]; rfl⟩
    | infoAck ha hp hr => exact ⟨.info, .ack, ha, hr, by rw [hp]; rfl⟩
    | chunkAck ha hp hr => exact ⟨.firmwareData, .ack, ha, hr, by rw [hp]; rfl⟩
    | retry code ha hp hr => exact ⟨.firmwareData, .nack code, ha, hr, by rw [hp]; rfl⟩
    -- every other move starts from another place of the driver, or leads to one
    | _ => simp_all
  · simp_all

end Sys2Proof.Proofs
end

section
/-! PROOF. What the invariant says of the driver alone (spec/10_state.md R21, spec/43_session_controller.md R152 to R166), and that
every move of the driver keeps it. -/

namespace Sys2Proof.Machine

open Sys2Proof

/-- What the invariant says of a driver under these parameters, whatever stands at the block. -/
structure Driver.Sound (c : Config) (d : Driver) : Prop where
  place    : d.phase.allows d.act = true
  offset   : d.offsetFits
  reason   : ∀ code, d.phase = .aborted (.nack code) → code ≠ STATUS_ACK
  source   : d.source.wf = true
  retries  : d.retries ≤ c.retryMax
  progress : ∀ p ∈ d.progress, p.2 = d.source.size ∧ p.1.toNat ≤ p.2.toNat ∧ 0 < p.2.toNat
  tasks    : ∀ k ∈ d.tasks, k.sound = true

theorem State.Inv.sound {s : State} (h : s.Inv) : s.driver.Sound s.config :=
  { place := h.place, offset := h.offset, reason := h.reason, source := h.source, retries := h.retries,
    progress := h.progress, tasks := h.tasks }

section
variable {c : Config} {d : Driver}

/-- A session state that says no more of the offset than that it is within the image (R152). -/
theorem Driver.offsetFits_of_within (h : d.offset.toNat ≤ d.source.size.toNat) (hd : d.phase ≠ .awaitingDataAck)
    (hs : d.phase = .sendingData → d.act ≠ .awaitPacket) (ht : d.phase ≠ .awaitingStopAck) (hc : d.phase ≠ .completed) :
    d.offsetFits :=
  ⟨h, fun
    | .inl hp => absurd hp hd
    | .inr ⟨hp, ha⟩ => absurd ha (hs hp),
  fun
    | .inl hp => absurd hp ht
    | .inr hp => absurd hp hc⟩

theorem Driver.Sound.within (h : d.Sound c) : d.offset.toNat ≤ d.source.size.toNat := by
  obtain ⟨within, -, -⟩ := h.offset
  exact within

/-- While a chunk is on its way the image is not whole (R157). -/
theorem Driver.Sound.lt_of_awaitingDataAck (h : d.Sound c) (hp : d.phase = .awaitingDataAck) :
    d.offset.toNat < d.source.size.toNat := by
  obtain ⟨-, chunk, -⟩ := h.offset
  exact chunk (.inl hp)

theorem Driver.Sound.lt_of_chunkBuilt (h : d.Sound c) (hp : d.phase = .sendingData) (ha : d.act = .awaitPacket) :
    d.offset.toNat < d.source.size.toNat := by
  obtain ⟨-, chunk, -⟩ := h.offset
  exact chunk (.inr ⟨hp, ha⟩)

/-- From `AwaitingStopAck` on the image is whole (R158, R161). -/
theorem Driver.Sound.eq_of_awaitingStopAck (h : d.Sound c) (hp : d.phase = .awaitingStopAck) :
    d.offset = d.source.size := by
  obtain ⟨-, -, whole⟩ := h.offset
  exact whole (.inl hp)

/-- A driver that goes on in another session state or place, its counts of reads and its held bytes set anew. -/
theorem Driver.Sound.moved (h : d.Sound c) (p : Phase) (a : Act) (waited : Nat) (held : Option (List Byte))
    (place : p.allows a = true) (offset : Driver.offsetFits { d with phase := p, act := a })
    (reason : ∀ code, p = .aborted (.nack code) → code ≠ STATUS_ACK) :
    Driver.Sound c { d with phase := p, act := a, waited := waited, heldRaw := held } :=
  { place := place, offset := offset, reason := reason, source := h.source, retries := h.retries,
    progress := h.progress, tasks := h.tasks }

/-- A driver can listen where it can await a parse (R155). -/
theorem Phase.allows_listen_eq (p : Phase) : p.allows .listen = p.allows .awaitParse := by cases p <;> rfl

/-- A driver that goes on in its session state, with no chunk built (R155). -/
theorem Driver.Sound.waits (h : d.Sound c) (a : Act) (waited : Nat) (held : Option (List Byte))
    (place : d.phase.allows a = true) (ha : a ≠ .awaitPacket) :
    Driver.Sound c { d with act := a, waited := waited, heldRaw := held } := by
  obtain ⟨within, -, whole⟩ := h.offset
  refine h.moved d.phase a waited held place ⟨within, ?_, whole⟩ h.reason
  rintro (hp | ⟨-, hc⟩)
  · exact h.lt_of_awaitingDataAck hp
  · exact absurd hc ha

/-- A session that ends early keeps its offset (R159). -/
theorem Driver.Sound.aborted (h : d.Sound c) (r : AbortReason) (waited : Nat)
    (hr : ∀ code, r = .nack code → code ≠ STATUS_ACK) :
    Driver.Sound c { d with phase := .aborted r, act := .rest, waited := waited } :=
  h.moved (.aborted r) .rest waited d.heldRaw rfl (Driver.offsetFits_of_within h.within nofun nofun nofun nofun)
    fun code hc => hr code (by cases hc; rfl)

/-- A session starts with a sound source and nothing acknowledged (R150, R214). -/
theorem Driver.Sound.starting (source : FirmwareSource) (metadata : FirmwareMetadata) (rest : List Task)
    (hw : source.wf = true) (ht : ∀ k ∈ rest, k.sound = true) :
    (Driver.starting source metadata rest).Sound c :=
  { place := rfl
    offset := Driver.offsetFits_of_within (Nat.zero_le _) nofun nofun nofun nofun
    reason := nofun
    source := hw
    retries := Nat.zero_le _
    progress := nofun
    tasks := ht }

/-- Asking for the packet of the session state (R154 to R160). -/
theorem Driver.Sound.asked (h : d.Sound c) (i : Instr) (hb : d.toBuild = some i) (held : Option (List Byte)) :
    Driver.Sound c { d with act := .awaitPacket, heldRaw := held } := by
  obtain ⟨within, -, whole⟩ := h.offset
  refine h.moved d.phase .awaitPacket d.waited held (Driver.allows_awaitPacket_of_toBuild hb) ⟨within, ?_, whole⟩ h.reason
  rintro (hp | ⟨hp, -⟩)
  · exact h.lt_of_awaitingDataAck hp
  · exact Nat.lt_of_le_of_ne within fun ho => Driver.offset_ne_of_toBuild hb hp (BitVec.eq_of_toNat_eq ho)

/-- The session states that send a packet are four (R154, R156, R157, R160). -/
theorem Phase.of_allows_awaitPacket {p : Phase} (h : p.allows .awaitPacket = true) :
    p = .idle ∨ p = .awaitingInfoAck ∨ p = .sendingData ∨ p = .awaitingStopAck := by
  cases p <;> simp_all [Phase.allows]

/-- Writing the packet (R154 to R160): a chunk is on its way only while the image is not whole, and STOP only when it is. -/
theorem Driver.Sound.written (h : d.Sound c) (ha : d.act = .awaitPacket) : d.written.Sound c := by
  have within := h.within
  obtain hp | hp | hp | hp := Phase.of_allows_awaitPacket (ha ▸ h.place)
  · rw [d.written_idle hp]
    exact h.moved _ _ 0 d.heldRaw rfl (Driver.offsetFits_of_within within nofun nofun nofun nofun) nofun
  · rw [d.written_info hp]
    exact h.moved _ _ 0 d.heldRaw rfl (Driver.offsetFits_of_within within nofun nofun nofun nofun) nofun
  · rw [d.written_chunk hp]
    exact h.moved _ _ 0 d.heldRaw rfl ⟨within, fun _ => h.lt_of_chunkBuilt hp ha, nofun⟩ nofun
  · rw [d.written_stop hp]
    exact h.moved _ _ 0 d.heldRaw rfl ⟨within, nofun, fun _ => h.eq_of_awaitingStopAck hp⟩ nofun

/-- `(Info, Ack)`: no byte of the image is acknowledged yet (R157). -/
theorem Driver.Sound.infoAcked (h : d.Sound c) : Driver.Sound c { d with phase := .sendingData, act := .build, offset := 0 } :=
  { place := rfl
    offset := Driver.offsetFits_of_within (Nat.zero_le _) nofun nofun nofun nofun
    reason := nofun
    source := h.source
    retries := h.retries
    progress := h.progress
    tasks := h.tasks }

/-- An acknowledged chunk: `offset'` stays within the image, and the report is of it (R158, R162). -/
theorem Driver.Sound.chunkAcked (h : d.Sound c) (hp : d.phase = .awaitingDataAck) : (d.chunkAcked c).Sound c := by
  have within : d.nextOffset.toNat ≤ d.source.size.toNat := d.toNat_nextOffset h.within ▸ d.offset_add_chunkLen_le h.within
  have unfinished := h.lt_of_awaitingDataAck hp
  have new : ∀ p ∈ [(d.nextOffset, d.source.size)], p.2 = d.source.size ∧ p.1.toNat ≤ p.2.toNat ∧ 0 < p.2.toNat := by
    intro p hmem
    obtain rfl := List.mem_singleton.mp hmem
    exact ⟨rfl, within, Nat.zero_lt_of_lt unfinished⟩
  have progress : ∀ p ∈ (d.chunkAcked c).progress, p.2 = d.source.size ∧ p.1.toNat ≤ p.2.toNat ∧ 0 < p.2.toNat := by
    unfold Driver.chunkAcked
    dsimp only
    split_ifs
    · exact List.forall_mem_append.mpr ⟨h.progress, new⟩
    · exact h.progress
  have offset : (d.chunkAcked c).offsetFits := by
    obtain ⟨hq, whole⟩ | hq := d.chunkAcked_phase c
    · exact ⟨within, by rw [hq]; exact nofun, fun _ => whole⟩
    · exact Driver.offsetFits_of_within within (by rw [hq]; exact nofun) (fun _ => nofun) (by rw [hq]; exact nofun)
        (by rw [hq]; exact nofun)
  exact
    { place := by obtain ⟨hq, -⟩ | hq := d.chunkAcked_phase c <;> rw [hq] <;> rfl
      offset := offset
      reason := by obtain ⟨hq, -⟩ | hq := d.chunkAcked_phase c <;> rw [hq] <;> exact nofun
      source := h.source
      retries := Nat.zero_le _
      progress := progress
      tasks := h.tasks }

/-- A refused chunk is to be sent again, at most `RETRY_MAX` times (R159). -/
theorem Driver.Sound.retried (h : d.Sound c) (hr : d.retries < c.retryMax) :
    Driver.Sound c { d with phase := .sendingData, act := .build, retries := d.retries + 1 } :=
  { place := rfl
    offset := Driver.offsetFits_of_within h.within nofun nofun nofun nofun
    reason := nofun
    source := h.source
    retries := hr
    progress := h.progress
    tasks := h.tasks }

end

/-- Every move of the driver keeps its part of the invariant. -/
theorem DriverMove.sound {s t : State} (hm : DriverMove s t) (h : s.driver.Sound s.config)
    (outcome : ∀ o, s.result = some o → o.wf = true) : t.driver.Sound t.config := by
  have within := h.within
  cases hm with
  | rest | noPacket | wait | drop => exact h
  | request r rest _ _ ht =>
    exact { h with tasks := fun k hk => h.tasks k (ht ▸ List.mem_cons_of_mem _ hk) }
  | session source metadata rest _ _ ht =>
    have tasks := ht ▸ h.tasks
    exact .starting source metadata rest (tasks _ List.mem_cons_self) fun k hk => tasks k (List.mem_cons_of_mem _ hk)
  | ask i _ hb => exact h.asked i hb _
  | wholeImage _ _ ho => exact h.moved _ _ _ _ rfl ⟨within, nofun, fun _ => ho⟩ nofun
  | write p ha => exact h.written ha
  | writeFails | readFails => exact h.aborted .transportError _ nofun
  | read b u ha => exact h.waits .awaitParse _ _ (Phase.allows_listen_eq _ ▸ ha ▸ h.place) nofun
  | ignore ha => exact h.waits .listen _ _ (Phase.allows_listen_eq _ ▸ ha ▸ h.place) nofun
  | timeout => exact h.aborted .timeout _ nofun
  | unparsed e => exact h.aborted (.unparsed e) _ nofun
  | startAck =>
    exact h.moved _ _ _ _ rfl (Driver.offsetFits_of_within within nofun nofun nofun nofun) nofun
  | infoAck => exact h.infoAcked
  | chunkAck _ hp => exact h.chunkAcked hp
  | retry code _ _ _ hr => exact h.retried hr
  | nack k code _ _ hr =>
    refine h.aborted (.nack code) _ ?_
    rintro _ ⟨⟩
    exact bne_iff_ne.mp (outcome _ hr)

end Sys2Proof.Machine
end

section
/-! PROOF. What the invariant says of the ports between driver and block (spec/43_session_controller.md R163, spec/60_exceptions.md
R183, R184), and that every step keeps the whole of it, and goes on. -/

namespace Sys2Proof.Machine

open Sys2Proof

/-! ### What a fitting port is -/

/-- What the invariant says of what stands at the block. -/
structure State.PortsSound (s : State) : Prop where
  port    : s.portFits
  outcome : ∀ o, s.result = some o → o.wf = true
  held    : s.driver.act = .awaitParse → ∃ raw, s.driver.heldRaw = some raw ∧
    (∀ r, s.requests = [r] → requestRaw r = some raw) ∧ ∀ o, s.result = some o → Yields (.parseResponse raw) s o

theorem State.Inv.portsSound {s : State} (h : s.Inv) : s.PortsSound :=
  { port := h.port, outcome := h.outcome, held := h.held }

/-- The invariant is made of its parts. -/
theorem State.inv_of_sound {s : State} (spaces : s.spaces = Spaces.absent) (table : s.tableReady = true)
    (driver : s.driver.Sound s.config) (ports : s.PortsSound) : s.Inv :=
  { spaces := spaces, table := table, place := driver.place, port := ports.port, outcome := ports.outcome,
    offset := driver.offset, reason := driver.reason, source := driver.source, retries := driver.retries,
    progress := driver.progress, tasks := driver.tasks, held := ports.held }

section
variable {s t : State}

/-- A request at the block is sound, of whatever kind, if it decodes to an instruction that is (R116, R184). -/
theorem requestSound_of_decode {p : Instr → Bool} {r : Request} {i : Instr} (hd : decode r = .ok i) (hw : i.wf = true)
    (hp : p i = true) : requestSound p r = true := by simp [requestSound, hd, hw, hp]

theorem wf_of_requestSound {p : Instr → Bool} {r : Request} {i : Instr} (h : requestSound p r = true)
    (hd : decode r = .ok i) : i.wf = true ∧ p i = true := by
  rw [requestSound, hd] at h
  exact (Bool.and_eq_true _ _).mp h

/-- A request passes in the `RAW` bytes of the instruction it decodes to. -/
theorem requestRaw_of_decode {r : Request} {i : Instr} (hd : decode r = .ok i) : requestRaw r = rawOperand i := by
  rw [requestRaw, hd]

/-- An idle block fits every place of the driver (R212). -/
theorem State.portFits_of_portIdle (h : s.portIdle) : s.portFits := by
  unfold State.portFits
  split
  case h_1 | h_4 | h_5 => exact .inl h
  case h_2 | h_3 => exact h

/-- Before it asks for a packet or reads, the driver has nothing at the block (R215). -/
theorem State.PortsSound.result_eq_none (h : s.PortsSound) (ha : s.driver.act = .build ∨ s.driver.act = .listen) :
    s.result = none := by
  have port := h.port
  unfold State.portFits at port
  obtain ha | ha := ha <;> rw [ha] at port <;> exact port.2

theorem State.PortsSound.of_portIdle (h : s.portIdle) (hh : s.driver.act = .awaitParse → ∃ raw, s.driver.heldRaw = some raw) :
    s.PortsSound := by
  obtain ⟨hrequests, hresult⟩ := h
  refine { port := State.portFits_of_portIdle ⟨hrequests, hresult⟩, outcome := ?_, held := fun ha => ?_ }
  · rw [hresult]
    exact nofun
  · obtain ⟨raw, hraw⟩ := hh ha
    refine ⟨raw, hraw, ?_, ?_⟩
    · rw [hrequests]
      exact nofun
    · rw [hresult]
      exact nofun

/-- A request is put at the idle block (R50). -/
theorem State.PortsSound.of_request (r : Request) (hr : s.requests = [r]) (hn : s.result = none) (port : s.portFits)
    (hh : s.driver.act = .awaitParse → ∃ raw, s.driver.heldRaw = some raw ∧ requestRaw r = some raw) : s.PortsSound := by
  refine { port := port, outcome := by rw [hn]; exact nofun, held := fun ha => ?_ }
  obtain ⟨raw, hraw, hreq⟩ := hh ha
  refine ⟨raw, hraw, fun r' hr' => ?_, by rw [hn]; exact nofun⟩
  obtain rfl : r = r' := by simpa [hr] using hr'
  exact hreq

/-- The driver asks the idle block for a packet of its own (R157, R163). -/
theorem State.PortsSound.ask_builder (h : s.requests = []) (hn : s.result = none) (i : Instr) (hb : i.isBuilder = true)
    (hw : i.wf = true) : (s.ask i .awaitPacket).PortsSound :=
  .of_request (encode i) (by simp [h]) hn
    (.inr (.inl ⟨encode i, by simp [h], hn, requestSound_of_decode (Proofs.decodeInvertsEncode i) hw hb⟩)) nofun

/-- The driver asks the idle block for the parse of a read, and holds the bytes (R155, R183). -/
theorem State.PortsSound.ask_parse (h : s.requests = []) (hn : s.result = none) (b : List Byte) :
    (s.ask (.parseResponse b) .awaitParse).PortsSound :=
  .of_request (encode (.parseResponse b)) (by simp [h]) hn
    (.inr (.inl ⟨encode (.parseResponse b), by simp [h], hn, rfl⟩)) fun _ => ⟨b, rfl, rfl⟩

/-- At rest the driver puts a sound request at the idle block (R168). -/
theorem State.PortsSound.of_direct (r : Request) (ha : s.driver.act = .rest) (hr : s.requests = [r]) (hn : s.result = none)
    (hs : requestSound (fun _ => true) r = true) : s.PortsSound := by
  refine .of_request r hr hn ?_ (by rw [ha]; exact nofun)
  unfold State.portFits
  rw [ha]
  exact .inr (.inl ⟨r, hr, hn, hs⟩)

/-- After every move of the driver, what stands at the block fits the driver's place. -/
theorem DriverMove.portsSound (hm : DriverMove s t) (hr : s.requests = []) (h : s.PortsSound)
    (hd : s.driver.Sound s.config) : t.PortsSound := by
  cases hm with
  | rest | noPacket | wait => exact h
  | request r rest ha hn ht =>
    exact .of_direct r ha (by simp [hr]) hn (hd.tasks (.request r) (ht ▸ List.mem_cons_self))
  | ask i ha hb =>
    obtain ⟨isBuilder, wf⟩ := Driver.toBuild_sound hb hd.source hd.within
    exact .ask_builder hr (h.result_eq_none (.inl ha)) i isBuilder wf
  | read b u ha => exact .ask_parse (s := s.withTransport u) hr (h.result_eq_none (.inr ha)) b
  | drop o ha => exact .of_portIdle ⟨hr, rfl⟩ fun hp => by simp [ha] at hp
  | session _ _ _ _ hn => exact .of_portIdle ⟨hr, hn⟩ nofun
  | wholeImage ha => exact .of_portIdle ⟨hr, h.result_eq_none (.inl ha)⟩ nofun
  | readFails u ha => exact .of_portIdle ⟨hr, h.result_eq_none (.inr ha)⟩ nofun
  | write => exact .of_portIdle ⟨hr, rfl⟩ fun hp => absurd hp (Phase.actAfterWrite_ne_awaitParse _)
  | _ => exact .of_portIdle ⟨hr, rfl⟩ nofun

/-! ### The block's answer -/

/-- Interpreting eight bytes never gives a checksum (R130). -/
theorem interpretOutcome_ne_checksum (t : CrcTable) (strict : Bool) (c : Byte) (f : RspFields) (v : Half) :
    interpretOutcome t strict c f ≠ .ok (.checksum v) := by
  unfold interpretOutcome
  cases kindOfCode c with
  | none => split_ifs <;> exact nofun
  | some k => split_ifs <;> exact nofun

/-- A parse ends in an error, or in a response whose status is an `AckStatus` (R21, R130). -/
theorem parseOutcome_cases (t : CrcTable) (strict : Bool) (raw : List Byte) :
    (∃ e, parseOutcome t strict raw = .error e) ∨
      ∃ k st, parseOutcome t strict raw = .ok (.response k st) ∧ st.wf = true := by
  unfold parseOutcome
  cases rspBytes raw with
  | none => exact .inl ⟨_, rfl⟩
  | some cf =>
    obtain ⟨c, f⟩ := cf
    dsimp only
    cases ho : interpretOutcome t strict c f with
    | error e => exact .inl ⟨e, rfl⟩
    | ok v =>
      cases v with
      | response k st =>
        obtain rfl := interpretOutcome_response_status t strict c f k st ho
        exact .inr ⟨k, _, rfl, decodeStatus_wf f.status⟩
      | packet p => exact absurd ho (interpretOutcome_ne_packet t strict c f p)
      | checksum v => exact absurd ho (interpretOutcome_ne_checksum t strict c f v)

/-- A request with a `RAW` operand ends as the parse of it (R71, R80). -/
theorem outcomeOf_of_rawOperand (t : CrcTable) (strict : Bool) (i : Instr) (raw : List Byte) (h : rawOperand i = some raw) :
    outcomeOf t strict i = parseOutcome t strict raw := by cases i <;> cases h <;> rfl

/-- A parse ends as parses do, with a status that is an `AckStatus` (R21, R130). -/
theorem outcomeOf_of_isParse (t : CrcTable) (strict : Bool) (i : Instr) (h : i.isParse = true) :
    (outcomeOf t strict i).isParse = true ∧ (outcomeOf t strict i).wf = true := by
  obtain ⟨raw, hraw⟩ := Option.isSome_iff_exists.mp (rawOperand_isSome i ▸ h)
  rw [outcomeOf_of_rawOperand t strict i raw hraw]
  obtain ⟨e, he⟩ | ⟨k, st, hk, hst⟩ := parseOutcome_cases t strict raw
  · rw [he]
    exact ⟨rfl, rfl⟩
  · rw [hk]
    exact ⟨rfl, hst⟩

/-- Every outcome has a status that is an `AckStatus`, if it has one (R21). -/
theorem outcomeOf_wf (t : CrcTable) (strict : Bool) (i : Instr) : (outcomeOf t strict i).wf = true := by
  by_cases hp : i.isParse = true
  · exact (outcomeOf_of_isParse t strict i hp).2
  · cases i with
    | checksum | buildStart | buildInfo | buildData | buildStop => rfl
    | _ => exact absurd rfl hp

/-- A builder ends with a packet (R111 to R114). -/
theorem outcomeOf_isPacket (t : CrcTable) (strict : Bool) (i : Instr) (h : i.isBuilder = true) :
    (outcomeOf t strict i).isPacket = true := by
  obtain ⟨cmd, payload, hf⟩ := framed_of_isBuilder i h
  rw [outcomeOf_framed t strict i cmd payload hf]
  rfl

/-- With one request at the block, the port is busy, with the kind of request that the driver's place allows (R163, R215). -/
theorem State.sound_of_request {p : Instr → Bool} {q : OpOutcome → Bool} {r : Request} (hr : s.requests = [r])
    (h : s.portIdle ∨ s.portBusy p ∨ s.portDone q) : requestSound p r = true := by
  obtain ⟨hn, -⟩ | ⟨r', hr', -, hs⟩ | ⟨o, hn, -⟩ := h
  · simp [hr] at hn
  · obtain rfl : r = r' := by simpa [hr] using hr'
    exact hs
  · simp [hr] at hn

/-- The outcome of the request that stands at the block is of the kind that the driver's place awaits (R163). -/
theorem State.PortsSound.portFits_conclude (h : s.PortsSound) (r : Request) (i : Instr) (hr : s.requests = [r])
    (hd : decode r = .ok i) : (s.conclude (outcomeOf s.config.crcTable s.config.strict i)).portFits := by
  have port := h.port
  unfold State.portFits at port ⊢
  rw [State.conclude_driver]
  cases ha : s.driver.act <;> rw [ha] at port
  case rest => exact .inr (.inr ⟨_, by simp [hr], rfl, rfl⟩)
  case build | listen => cases hr.symm.trans port.1
  case awaitPacket =>
    obtain ⟨-, hb⟩ := wf_of_requestSound (State.sound_of_request hr port) hd
    exact .inr (.inr ⟨_, by simp [hr], rfl, outcomeOf_isPacket _ _ i hb⟩)
  case awaitParse =>
    obtain ⟨-, hp⟩ := wf_of_requestSound (State.sound_of_request hr port) hd
    exact .inr (.inr ⟨_, by simp [hr], rfl, (outcomeOf_of_isParse _ _ i hp).1⟩)

/-- What the driver holds is what the outcome it awaits is of (R183). -/
theorem State.PortsSound.conclude (h : s.PortsSound) (table : s.tableReady = true) (r : Request) (i : Instr)
    (hr : s.requests = [r]) (hd : decode r = .ok i) :
    (s.conclude (outcomeOf s.config.crcTable s.config.strict i)).PortsSound := by
  refine { port := h.portFits_conclude r i hr hd, outcome := ?_, held := fun ha => ?_ }
  · rintro o ⟨⟩
    exact outcomeOf_wf _ _ i
  · obtain ⟨raw, hraw, hreq, -⟩ := h.held ha
    have operand : rawOperand i = some raw := (requestRaw_of_decode hd).symm.trans (hreq r hr)
    refine ⟨raw, hraw, by simp [hr], ?_⟩
    rintro o ⟨⟩
    rw [outcomeOf_of_rawOperand _ _ i raw operand]
    exact yields_parseOutcome (.parseResponse raw) raw _ rfl fun _ => table

/-! ### One step -/

/-- A reset abandons what stands at the block; the driver goes on waiting, and holding (R212; log 11). -/
theorem State.Inv.blockReset (h : s.Inv) : s.blockReset.Inv :=
  State.inv_of_sound rfl rfl h.sound <| .of_portIdle ⟨rfl, rfl⟩ fun ha => by
    obtain ⟨raw, hraw, -⟩ := h.held ha
    exact ⟨raw, hraw⟩

/-- The block answers the request that stands at it (R50). -/
theorem State.Inv.exec (h : s.Inv) (r : Request) (i : Instr) (hr : s.requests = [r]) (hd : decode r = .ok i)
    (he : exec i s = .next t) : t.Inv := by
  obtain ⟨o, rfl⟩ := exec_next i s t he
  obtain rfl := Option.some.inj (result_of_exec_next i s _ he)
  exact State.inv_of_sound rfl h.table h.sound (h.portsSound.conclude h.table r i hr hd)

/-- The driver moves (R150 to R164). -/
theorem State.Inv.driverStep (h : s.Inv) (hr : s.requests = []) (hd : driverStep s = .next t) : t.Inv := by
  have move := driverStep_next s t hd
  have frame := driverStep_frame s t hd
  exact State.inv_of_sound (frame.spaces.trans h.spaces) (frame.tableReady.trans h.table) (move.sound h.sound h.outcome)
    (move.portsSound hr h.portsSound h.sound)

/-- At most one request stands at the block, alone and sound (R116, R215). -/
theorem State.PortsSound.requests_cases (h : s.PortsSound) :
    s.requests = [] ∨ ∃ r i, s.requests = [r] ∧ s.result = none ∧ decode r = .ok i ∧ i.wf = true := by
  have of_fits {p : Instr → Bool} {q : OpOutcome → Bool} (fits : s.portIdle ∨ s.portBusy p ∨ s.portDone q) :
      s.requests = [] ∨ ∃ r i, s.requests = [r] ∧ s.result = none ∧ decode r = .ok i ∧ i.wf = true := by
    obtain ⟨hr, -⟩ | ⟨r, hr, hn, hs⟩ | ⟨o, hr, -⟩ := fits
    · exact .inl hr
    · unfold requestSound at hs
      split at hs
      case h_1 i hd => exact .inr ⟨r, i, hr, hn, hd, ((Bool.and_eq_true _ _).mp hs).1⟩
      case h_2 => cases hs
    · exact .inl hr
  have port := h.port
  unfold State.portFits at port
  split at port
  case h_1 | h_4 | h_5 => exact of_fits port
  case h_2 | h_3 => exact .inl port.1

theorem OpOutcome.eq_packet {o : OpOutcome} (h : o.isPacket = true) : ∃ p, o = .ok (.packet p) := by
  unfold OpOutcome.isPacket at h
  split at h
  case h_1 p => exact ⟨p, rfl⟩
  case h_2 | h_3 | h_4 => cases h

/-- The driver takes every outcome of a parse (R155). -/
theorem driverTakeParse_goes_on (o : OpOutcome) (hr : s.result = some o) (h : o.isParse = true) :
    ∃ t, driverTakeParse s = .next t := by
  unfold OpOutcome.isParse at h
  split at h
  case h_1 k st =>
    by_cases hk : s.driver.phase.awaited = some k
    · cases st with
      | ack => exact ⟨_, driverTakeParse_ack s k hr hk⟩
      | nack code => exact ⟨_, driverTakeParse_nack s k code hr hk⟩
    · exact ⟨_, driverTakeParse_other s k st hr hk⟩
  case h_2 e => exact ⟨_, driverTakeParse_error s e hr⟩
  case h_3 | h_4 => cases h

/-- Where no request stands, the driver finds no outcome but one it awaits (R163). -/
theorem State.PortsSound.driverStep_goes_on (h : s.PortsSound) (hr : s.requests = []) : ∃ t, driverStep s = .next t := by
  have port := h.port
  unfold State.portFits at port
  split at port
  case h_1 ha => exact ⟨_, driverStep_rest s ha⟩
  case h_2 ha => exact ⟨_, driverStep_build s ha⟩
  case h_3 ha => exact ⟨_, driverStep_listen s ha⟩
  case h_4 ha =>
    rw [driverStep_awaitPacket s ha]
    obtain ⟨-, hn⟩ | ⟨r, hr', -⟩ | ⟨o, -, ho, hk⟩ := port
    · exact ⟨_, driverTakePacket_none s hn⟩
    · cases hr.symm.trans hr'
    · obtain ⟨p, rfl⟩ := OpOutcome.eq_packet hk
      exact ⟨_, driverTakePacket_packet s p ho⟩
  case h_5 ha =>
    rw [driverStep_awaitParse s ha]
    obtain ⟨-, hn⟩ | ⟨r, hr', -⟩ | ⟨o, -, ho, hk⟩ := port
    · exact ⟨_, driverTakeParse_none s hn⟩
    · cases hr.symm.trans hr'
    · exact driverTakeParse_goes_on o ho hk

end

end Sys2Proof.Machine

namespace Sys2Proof.Proofs

open Sys2Proof Sys2Proof.Machine

/-- Settles O49: one lemma for each of the three kinds of step. -/
theorem stepsKeepTheInvariant : Obligations.StepsKeepTheInvariant := by
  intro s t h hs
  obtain ⟨-, rfl⟩ | ⟨r, i, -, hr, -, hd, he⟩ | ⟨-, hr, hd⟩ := step_next s t hs
  · exact h.blockReset
  · exact h.exec r i hr hd he
  · exact h.driverStep hr hd

/-- Settles O50: a reset lands, the request that stands alone is sound and is answered, or the driver moves. -/
theorem driverKeepsTheContract : Obligations.DriverKeepsTheContract := by
  intro s h
  cases hp : s.resetPending with
  | true => exact ⟨_, step_reset s hp⟩
  | false =>
    obtain hr | ⟨r, i, hr, hn, hd, hw⟩ := h.portsSound.requests_cases
    · rw [step_driver s hp hr]
      exact h.portsSound.driverStep_goes_on hr
    · rw [step_block s r i hp hr hn hd]
      exact ⟨_, exec_concludes i s hw fun _ => h.table⟩

end Sys2Proof.Proofs
end

section
/-! PROOF. The transitions of a session (spec/43_session_controller.md R154 to R164). Sending a packet is three steps, whatever the
packet (`runs_send`); every other transition is one step. -/

namespace Sys2Proof.Machine

open Sys2Proof

section
variable (s : State)

/-! ### One step -/

theorem State.answered.result_eq {s : State} {o : OpOutcome} (h : s.answered o) : s.result = some o := by
  obtain ⟨-, -, hresult, -⟩ := h
  exact hresult

theorem State.quiet.result_eq {s : State} (h : s.quiet) : s.result = none := by
  obtain ⟨-, -, hresult, -⟩ := h
  exact hresult

theorem State.quiet.requests_eq {s : State} (h : s.quiet) : s.requests = [] := by
  obtain ⟨-, hrequests, -, -⟩ := h
  exact hrequests

theorem step_rest (h : s.quiet) (ha : s.driver.act = .rest) : step s = .next (driverRest s) := by
  rw [step_of_quiet s h, driverStep_rest s ha]

theorem step_build (h : s.quiet) (ha : s.driver.act = .build) : step s = .next (driverBuild s) := by
  rw [step_of_quiet s h, driverStep_build s ha]

theorem step_listen (h : s.quiet) (ha : s.driver.act = .listen) : step s = .next (driverListen s) := by
  rw [step_of_quiet s h, driverStep_listen s ha]

theorem step_takePacket (p : List Byte) (h : s.answered (.ok (.packet p))) (ha : s.driver.act = .awaitPacket) :
    step s = .next (s.takeResult.transmit p) := by
  rw [step_of_answered s _ h, driverStep_awaitPacket s ha, driverTakePacket_packet s p h.result_eq]

/-- The packet is written (R154 to R160). -/
theorem step_write (p : List Byte) (h : s.answered (.ok (.packet p))) (ha : s.driver.act = .awaitPacket)
    (hs : s.writeSucceeds) :
    step s = .next { s.takeResult with transport := s.transport.wrote p, driver := s.driver.written } := by
  rw [step_takePacket s p h ha, State.transmit_done s.takeResult p hs]
  rfl

theorem step_ack (k : CommandKind) (h : s.answered (.ok (.response k .ack))) (ha : s.driver.act = .awaitParse)
    (hk : s.driver.phase.awaited = some k) : step s = .next (driverAck s.takeResult) := by
  rw [step_of_answered s _ h, driverStep_awaitParse s ha, driverTakeParse_ack s k h.result_eq hk]

theorem step_nack (k : CommandKind) (code : Byte) (h : s.answered (.ok (.response k (.nack code))))
    (ha : s.driver.act = .awaitParse) (hk : s.driver.phase.awaited = some k) :
    step s = .next (driverNack code s.takeResult) := by
  rw [step_of_answered s _ h, driverStep_awaitParse s ha, driverTakeParse_nack s k code h.result_eq hk]

theorem step_unparsed (e : ParseError) (h : s.answered (.error e)) (ha : s.driver.act = .awaitParse) :
    step s = .next (driverUnparsed e s.takeResult) := by
  rw [step_of_answered s _ h, driverStep_awaitParse s ha, driverTakeParse_error s e h.result_eq]

/-- What neither parses, under `ON_MALFORMED = retry`, nor answers the awaited command does not end the wait (R155). -/
theorem step_ignore (o : OpOutcome) (h : s.answered o) (ha : s.driver.act = .awaitParse)
    (ho : (∃ e, o = .error e) ∧ s.config.onMalformed = .retry ∨
      ∃ k st, o = .ok (.response k st) ∧ s.driver.phase.awaited ≠ some k) :
    step s = .next (driverIgnore s.takeResult) := by
  obtain ⟨⟨e, rfl⟩, hc⟩ | ⟨k, st, rfl, hk⟩ := ho
  · rw [step_unparsed s e h ha, driverUnparsed_retry s.takeResult e hc]
  · rw [step_of_answered s _ h, driverStep_awaitParse s ha, driverTakeParse_other s k st h.result_eq hk]

/-- A read is handed to the parse, with nothing of the reads before it, and held (R155, R183). -/
theorem step_read (b : List Byte) (u : Transport) (h : s.quiet) (ha : s.driver.act = .listen)
    (hr : s.transport.nextRead = (.bytes b, u)) :
    step s = .next { s with
      requests := [encode (.parseResponse b)]
      driver := { s.driver with act := .awaitParse, heldRaw := some b }
      transport := u } := by
  rw [step_listen s h ha, driverListen_bytes s b u hr]
  simp [State.ask, State.present, State.withDriver, State.withTransport, h.requests_eq]

/-- A failed read ends the session (R164). -/
theorem step_read_failed (u : Transport) (h : s.quiet) (ha : s.driver.act = .listen)
    (hr : s.transport.nextRead = (.failed, u)) :
    step s = .next ((s.withTransport u).abort .transportError) := by
  rw [step_listen s h ha, driverListen_failed s u hr]

/-! ### Asking the block, and sending -/

/-- A sound request that stands alone is answered by the next step, and its outcome then stands alone (R50, R180). -/
theorem step_answers (r : Request) (i : Instr) (hreset : s.resetPending = false) (hr : s.requests = [r])
    (hn : s.result = none) (ht : s.tableReady = true) (hd : decode r = .ok i) (hw : i.wf = true) :
    step s = .next (s.conclude (outcomeOf s.config.crcTable s.config.strict i)) ∧
      (s.conclude (outcomeOf s.config.crcTable s.config.strict i)).answered
        (outcomeOf s.config.crcTable s.config.strict i) :=
  ⟨(step_block s r i hreset hr hn hd).trans (exec_concludes i s hw fun _ => ht), hreset, by simp [hr], rfl, ht⟩

/-- So is a request that the driver makes in a quiet state. -/
theorem step_asked (i : Instr) (a : Act) (h : s.quiet) (hw : i.wf = true) :
    step (s.ask i a) = .next ((s.ask i a).conclude (outcomeOf s.config.crcTable s.config.strict i)) ∧
      ((s.ask i a).conclude (outcomeOf s.config.crcTable s.config.strict i)).answered
        (outcomeOf s.config.crcTable s.config.strict i) := by
  obtain ⟨hreset, hrequests, hresult, htable⟩ := h
  exact step_answers (s.ask i a) (encode i) i hreset (by simp [hrequests]) hresult htable (Proofs.decodeInvertsEncode i) hw

/-- A request with a payload to frame passes no `RAW` in (R40). -/
theorem rawOperand_of_framed (i : Instr) (framed : Byte × List Byte) (h : i.framed = some framed) :
    rawOperand i = none := by
  cases i with
  | checksum | buildStart | buildInfo | buildData | buildStop => rfl
  | _ => cases h

/-- The driver asks for the packet of its state, the block frames it, and the driver writes it (R154, R156, R157, R160). -/
theorem runs_send (i : Instr) (cmd : Byte) (payload : List Byte) (h : s.quiet) (ha : s.driver.act = .build)
    (hb : s.driver.toBuild = some i) (hf : i.framed = some (cmd, payload)) (hw : i.wf = true) (hs : s.writeSucceeds) :
    ∃ t, runs 3 s = .next t ∧ t.quiet ∧ t.config = s.config ∧ t.driver = s.driver.written ∧
      t.transport = s.transport.wrote (frame s.config.crcTable cmd payload) := by
  have first : step s = .next (s.ask i .awaitPacket) := by rw [step_build s h ha, driverBuild_ask s i hb]
  obtain ⟨second, standing⟩ := step_asked s i .awaitPacket h hw
  rw [outcomeOf_framed _ _ i cmd payload hf] at second standing
  have third := step_write _ _ standing rfl hs
  have run := (runs_succ 2 _ _ first).trans ((runs_succ 1 _ _ second).trans (runs_succ 0 _ _ third))
  have held := rawOperand_of_framed i _ hf
  refine ⟨_, run, standing.quiet_takeResult, rfl, ?_, rfl⟩
  simp [Driver.written, held]

end

/-! ### Where a session can go -/

/-- No write leads into `Aborted` (R154 to R160). -/
theorem Phase.afterWrite_eq_aborted {p : Phase} {r : AbortReason} (h : p.afterWrite = .aborted r) : p = .aborted r := by
  cases p with
  | aborted => exact h
  | _ => cases h

/-- A write leads into `Completed` from `AwaitingStopAck` alone (R160). -/
theorem Phase.afterWrite_eq_completed {p : Phase} (h : p.afterWrite = .completed) :
    p = .awaitingStopAck ∨ p = .completed := by
  cases p <;> simp_all [Phase.afterWrite]

end Sys2Proof.Machine

namespace Sys2Proof.Proofs

open Sys2Proof Sys2Proof.Machine

/-- Settles O31: START is the packet of `Idle`. -/
theorem sessionStartsWithStart : Obligations.SessionStartsWithStart := by
  intro s h hp ha hs
  obtain ⟨t, hrun, quiet, config, driver, transport⟩ :=
    runs_send s .buildStart CMD_START [START_PAYLOAD] h ha (s.driver.toBuild_idle hp) rfl rfl hs
  exact ⟨t, hrun, quiet, config, driver.trans (s.driver.written_idle hp), transport⟩

/-- Settles O32: each clause is the same step, with what the transport's next read is. -/
theorem everyReadIsParsedOnItsOwn : Obligations.EveryReadIsParsedOnItsOwn := by
  intro s h ha
  refine ⟨fun b rest hr => ?listed, fun hr hl => ?silent, fun b rs hr hl => ?cyclic, fun hr hl => ?free⟩
  case listed => exact step_read s b _ h ha (Transport.nextRead_cons _ _ rest hr)
  case silent =>
    exact step_read s [] _ h ha ((Transport.nextRead_nil _ hr).trans (Transport.laterRead_silent _ hl))
  case cyclic => exact step_read s b _ h ha ((Transport.nextRead_nil _ hr).trans (Transport.laterRead_cycle _ _ rs hl))
  case free =>
    have draw := (Transport.nextRead_nil _ hr).trans (Transport.laterRead_free _ hl)
    unfold freeReadResult at draw
    cases hd : Config.freeRead s.transport.drawn with
    | some b =>
      rw [hd] at draw
      exact ⟨_, step_read s b _ h ha draw, rfl, rfl, rfl⟩
    | none =>
      rw [hd] at draw
      exact ⟨_, step_read_failed s _ h ha draw, rfl, h.requests_eq, rfl⟩

/-- Settles O33: neither outcome ends the wait; under `ON_MALFORMED = abort` the first ends the session. -/
theorem unawaitedResponsesAreIgnored : Obligations.UnawaitedResponsesAreIgnored := by
  intro s o h ha
  refine ⟨fun hb ho => ?ignored, ?aborted⟩
  case ignored =>
    refine ⟨_, step_ignore s o h ha ho, ?_⟩
    rw [driverIgnore_unbounded s.takeResult hb]
    exact ⟨h.quiet_takeResult, rfl, rfl, rfl⟩
  case aborted =>
    rintro e rfl hc
    refine ⟨_, step_unparsed s e h ha, ?_⟩
    rw [driverUnparsed_abort s.takeResult e hc]
    exact ⟨h.quiet_takeResult, rfl, rfl, rfl⟩

/-- Settles O34: the acknowledgement, and then INFO is the packet of `AwaitingInfoAck`. -/
theorem startAcknowledged : Obligations.StartAcknowledged := by
  intro s hp ha
  have awaits : s.driver.phase.awaited = some .start := by rw [hp]; rfl
  refine ⟨fun h hs => ?ack, fun c h => ?nack⟩
  case ack =>
    have first := step_ack s .start h ha awaits
    rw [driverAck_start s.takeResult hp] at first
    obtain ⟨t, hrun, quiet, config, driver, transport⟩ :=
      runs_send (s.takeResult.goto .awaitingInfoAck .build) _ CMD_INFO (infoPayload s.driver.metadata) h.quiet_takeResult
        rfl (Driver.toBuild_info _ rfl) rfl rfl hs
    exact ⟨t, (runs_succ 3 s _ first).trans hrun, quiet, config, driver.trans (Driver.written_info _ rfl), transport⟩
  case nack =>
    refine ⟨_, step_nack s .start c h ha awaits, ?_⟩
    rw [driverNack_abort s.takeResult c fun hd => by cases hp.symm.trans hd]
    exact ⟨h.quiet_takeResult, rfl, rfl⟩

/-- Settles O35: two transitions of one step each, the abort, and the chunk as the packet of `SendingData`. -/
theorem infoAcknowledgedAndChunkSent : Obligations.InfoAcknowledgedAndChunkSent := by
  refine ⟨fun s hp ha => ?answer, fun s h hp ha => ⟨fun ho => ?whole, fun hlt hwf hs => ?chunk⟩⟩
  case answer =>
    have awaits : s.driver.phase.awaited = some .info := by rw [hp]; rfl
    refine ⟨fun h => ?ack, fun c h => ?nack⟩
    case ack =>
      refine ⟨_, step_ack s .info h ha awaits, ?_⟩
      rw [driverAck_info s.takeResult hp]
      exact ⟨h.quiet_takeResult, rfl, rfl⟩
    case nack =>
      refine ⟨_, step_nack s .info c h ha awaits, ?_⟩
      rw [driverNack_abort s.takeResult c fun hd => by cases hp.symm.trans hd]
      exact ⟨h.quiet_takeResult, rfl, rfl⟩
  case whole =>
    refine ⟨_, step_build s h ha, ?_⟩
    rw [driverBuild_wholeImage s hp ho]
    exact ⟨h, rfl, rfl⟩
  case chunk =>
    have within : s.driver.offset.toNat ≤ s.driver.source.size.toNat := Nat.le_of_lt hlt
    have differ : s.driver.offset ≠ s.driver.source.size := fun ho => Nat.ne_of_lt hlt (congrArg BitVec.toNat ho)
    have asks := s.driver.toBuild_chunk hp differ
    obtain ⟨-, wf⟩ := Driver.toBuild_sound asks hwf within
    obtain ⟨t, hrun, quiet, config, driver, transport⟩ :=
      runs_send s _ CMD_DATA s.driver.chunk h ha asks (s.driver.framed_chunk hwf within) wf hs
    intro n chunk
    have hchunk : s.driver.chunk = chunk := s.driver.chunk_eq
    refine ⟨?_, hchunk ▸ s.driver.chunk_length hwf within, t, hrun, quiet, config,
      driver.trans (s.driver.written_chunk hp), ?_⟩
    · omega
    · rw [transport, hchunk]
      rfl

/-- Settles O36: `offset'` neither overflows nor passes the end of the image. -/
theorem chunkAcknowledged : Obligations.ChunkAcknowledged := by
  intro s hp ha h hlt n
  have within : s.driver.offset.toNat ≤ s.driver.source.size.toNat := Nat.le_of_lt hlt
  have sum : s.driver.nextOffset.toNat = s.driver.offset.toNat + n := s.driver.toNat_nextOffset within
  refine ⟨_, step_ack s .firmwareData h ha (by rw [hp]; rfl), ?_⟩
  rw [driverAck_data s.takeResult hp]
  refine ⟨h.quiet_takeResult, rfl, rfl, sum, sum ▸ s.driver.offset_add_chunkLen_le within, rfl, ?_, rfl, rfl, rfl, rfl⟩
  rw [← sum]
  simp only [BitVec.toNat_inj]
  rfl

/-- Settles O37: the report is part of the acknowledgement, and an image of no bytes has no chunk to acknowledge. -/
theorem progressIsReportedPerChunk : Obligations.ProgressIsReportedPerChunk := by
  intro s hp ha h hlt
  refine ⟨_, step_ack s .firmwareData h ha (by rw [hp]; rfl), Nat.zero_lt_of_lt hlt, ?_⟩
  rw [driverAck_data s.takeResult hp]
  rfl

/-- Settles O38: the two cases of a Nack in `AwaitingDataAck`. -/
theorem chunkRefused : Obligations.ChunkRefused := by
  intro s c hp ha h
  have refused := step_nack s .firmwareData c h ha (by rw [hp]; rfl)
  refine ⟨fun hr => ?spent, fun hr => ?again⟩
  case spent =>
    refine ⟨_, refused, ?_⟩
    rw [driverNack_abort s.takeResult c fun _ => hr]
    exact ⟨h.quiet_takeResult, rfl, rfl, rfl⟩
  case again =>
    refine ⟨_, refused, ?_⟩
    rw [driverNack_retry s.takeResult c hp hr]
    exact ⟨h.quiet_takeResult, rfl, rfl⟩

/-- Settles O39: STOP is the packet of `AwaitingStopAck`. -/
theorem stopIsNotAwaited : Obligations.StopIsNotAwaited := by
  intro s h hp ha hs
  obtain ⟨t, hrun, quiet, config, driver, transport⟩ :=
    runs_send s .buildStop CMD_STOP [STOP_PAYLOAD] h ha (s.driver.toBuild_stop hp) rfl rfl hs
  exact ⟨t, hrun, quiet, driver.trans (s.driver.written_stop hp), config, transport⟩

/-- Settles O40: the next read is listed or next in the cycle, and the next write is listed. -/
theorem transportFailureAborts : Obligations.TransportFailureAborts := by
  refine ⟨fun s rest h ha hr => ?read, fun s p k rest h ha hw => ?write⟩
  case read =>
    have failed : ∃ u, s.transport.nextRead = (.failed, u) := by
      obtain hr | ⟨hr, hl⟩ := hr
      · exact ⟨_, Transport.nextRead_cons _ _ rest hr⟩
      · exact ⟨_, (Transport.nextRead_nil _ hr).trans (Transport.laterRead_cycle _ _ rest hl)⟩
    obtain ⟨u, hu⟩ := failed
    refine ⟨_, step_read_failed s u h ha hu, h, rfl, ?_⟩
    have sent := s.transport.nextRead_sent
    rwa [hu] at sent
  case write =>
    refine ⟨_, step_takePacket s p h ha, ?_⟩
    rw [State.transmit_failed s.takeResult p k rest hw]
    exact ⟨h.quiet_takeResult, rfl⟩

/-- Settles O41: the free value decides between the two, and no other move leads into `Aborted(Timeout)`. -/
theorem boundedWaitEndsInTimeout : Obligations.BoundedWaitEndsInTimeout := by
  refine ⟨fun s o bound h ha hb ho => ?bounded, fun s t hb h ht => ?unbounded⟩
  case bounded =>
    refine ⟨_, step_ignore s o h ha ho, ?_⟩
    rw [driverIgnore_bounded s.takeResult bound hb]
    simp only [State.takeResult_driver]
    split_ifs
    · exact ⟨h.quiet_takeResult, rfl, rfl⟩
    · exact ⟨h.quiet_takeResult, rfl, rfl⟩
  case unbounded =>
    obtain move | ⟨hdriver, -⟩ := step_driverMove s t h
    · cases move with
      | rest | noPacket | wait | drop | request | ask | read | ignore => exact ht
      | write => exact Phase.afterWrite_eq_aborted ht
      | timeout bound _ _ hb' => cases hb.symm.trans hb'
      | chunkAck => obtain ⟨hp, -⟩ | hp := s.driver.chunkAcked_phase s.config <;> cases hp.symm.trans ht
      | _ => cases ht
    · rwa [hdriver] at ht

/-- Settles O42: the states one by one, and in `Aborted` the reasons. -/
theorem sessionResultKeepsTheRawCode : Obligations.SessionResultKeepsTheRawCode := by
  intro s
  unfold sessionResult
  refine ⟨fun code hp => ?nack, fun reason hr hp => ?other, ?completed, ?running⟩
  case nack => rw [hp]; rfl
  case other =>
    rw [hp]
    cases reason with
    | nack code => exact absurd rfl (hr code)
    | transportError | timeout | unparsed => rfl
  case completed =>
    cases s.driver.phase with
    | aborted reason => cases reason <;> simp
    | _ => simp
  case running =>
    cases s.driver.phase with
    | aborted reason => cases reason <;> simp
    | _ => simp

/-- Settles O44: only the write of STOP leads into `Completed`, and STOP is sent only when the image is whole. -/
theorem completedMeansEveryByteAcknowledged : Obligations.CompletedMeansEveryByteAcknowledged := by
  intro s t inv h hs ht
  obtain move | ⟨hdriver, -⟩ := step_driverMove s t h
  · cases move with
    | write p =>
      obtain hp | hp := Phase.afterWrite_eq_completed ht
      · exact ⟨hp, inv.sound.eq_of_awaitingStopAck hp, p, rfl, rfl, rfl, rfl⟩
      · exact absurd hp hs
    | rest | noPacket | wait | drop | request | ask | read | ignore => exact absurd ht hs
    | chunkAck => obtain ⟨hp, -⟩ | hp := s.driver.chunkAcked_phase s.config <;> cases hp.symm.trans ht
    | _ => cases ht
  · exact absurd (hdriver ▸ ht) hs

end Sys2Proof.Proofs
end

section
/-! PROOF. The driver at rest (spec/43_session_controller.md R150, R161, R168): its tasks, its direct requests, and what it leaves
alone after a session has ended. -/

namespace Sys2Proof.Machine

open Sys2Proof

/-- A run of some steps goes on after its first. -/
theorem runs_succ_next (n : Nat) (s t : State) (h : runs (n + 1) s = .next t) : ∃ u, step s = .next u ∧ runs n u = .next t := by
  change Sys2Proof.core.run (n + 1) s = _ at h
  simp only [Host.Core.run] at h
  split at h
  case h_1 u hs => exact ⟨u, hs, h⟩
  case h_2 | h_3 => cases h

section
variable (s : State)

/-- At rest the next direct request is put at the quiet block (R168). -/
theorem step_request (r : Request) (rest : List Task) (h : s.quiet) (ha : s.driver.act = .rest)
    (ht : s.driver.tasks = .request r :: rest) :
    step s = .next { s with
      requests := [r], driver := { s.driver with tasks := rest, heldRaw := (requestRaw r).or s.driver.heldRaw } } := by
  rw [step_rest s h ha, driverRest_request s r rest h.result_eq ht, h.requests_eq, List.nil_append]

/-- At rest a standing outcome is taken and dropped (R24). -/
theorem step_drop (o : OpOutcome) (h : s.answered o) (ha : s.driver.act = .rest) : step s = .next s.takeResult := by
  rw [step_of_answered s o h, driverStep_rest s ha, driverRest_outcome s o h.result_eq]

/-- At rest the next session is started (R150). -/
theorem step_session (source : FirmwareSource) (metadata : FirmwareMetadata) (rest : List Task) (h : s.quiet)
    (ha : s.driver.act = .rest) (ht : s.driver.tasks = .session source metadata :: rest) :
    step s = .next (s.withDriver (Driver.starting source metadata rest)) := by
  rw [step_rest s h ha, driverRest_session s source metadata rest h.result_eq ht]

/-- The driver is at rest and has no session among its tasks. -/
def State.restsForGood : Prop := s.driver.act = .rest ∧ ∀ k ∈ s.driver.tasks, ∃ r, k = .request r

/-- Such a driver goes on resting, and sends and changes nothing of its session (R161). -/
theorem State.restsForGood.step {s t : State} (h : s.restsForGood) (hs : step s = .next t) :
    t.restsForGood ∧ t.transport = s.transport ∧ t.driver.phase = s.driver.phase ∧ t.driver.offset = s.driver.offset := by
  obtain ⟨ha, direct⟩ := h
  obtain move | ⟨hdriver, htransport⟩ := step_driverMove s t hs
  · cases move with
    | rest | noPacket | wait | drop => exact ⟨⟨ha, direct⟩, rfl, rfl, rfl⟩
    | request r rest _ _ ht =>
      exact ⟨⟨ha, fun k hk => direct k (ht ▸ List.mem_cons_of_mem _ hk)⟩, rfl, rfl, rfl⟩
    | session source metadata rest _ _ ht =>
      obtain ⟨r, hr⟩ := direct (.session source metadata) (ht ▸ List.mem_cons_self)
      cases hr
    -- every other move starts from another place of the driver, or leads to one
    | _ => simp_all
  · rw [State.restsForGood, hdriver]
    exact ⟨⟨ha, direct⟩, htransport, rfl, rfl⟩

end

end Sys2Proof.Machine

namespace Sys2Proof.Proofs

open Sys2Proof Sys2Proof.Machine

/-- Settles O45, by induction on the number of steps. -/
theorem terminalStatesSendNothing : Obligations.TerminalStatesSendNothing := by
  intro n s t ha terminal direct hrun
  have rests : s.restsForGood := ⟨ha, direct⟩
  clear ha terminal direct
  induction n generalizing s with
  | zero =>
    cases hrun
    exact ⟨rfl, rfl, rfl⟩
  | succ n ih =>
    obtain ⟨u, hstep, hrun⟩ := runs_succ_next n s t hrun
    obtain ⟨rests, transport, phase, offset⟩ := rests.step hstep
    obtain ⟨transport', phase', offset'⟩ := ih u hrun rests
    exact ⟨transport'.trans transport, phase'.trans phase, offset'.trans offset⟩

/-- Settles O52: one step for each of the four things a resting driver may find. -/
theorem restingDriverTakesItsTasks : Obligations.RestingDriverTakesItsTasks := by
  intro s ha
  refine ⟨fun r rest h ht => step_request s r rest h ha ht, fun o h => step_drop s o h ha, fun src md rest h ht => ?_,
    fun h ht => ?_⟩
  · exact ⟨_, step_session s src md rest h ha ht, h, rfl, rfl, rfl⟩
  · rw [step_rest s h ha, driverRest_nil s h.result_eq ht]

/-- Settles O53: the block answers the request it finds as it would in `s`, since it reads only the parameters and the table. -/
theorem directRequestIsAnsweredAndTaken : Obligations.DirectRequestIsAnsweredAndTaken := by
  intro s r i rest h ha ht hd hw
  have first := step_request s r rest h ha ht
  obtain ⟨hreset, -, hresult, htable⟩ := h
  obtain ⟨second, answered⟩ := step_answers
    { s with requests := [r], driver := { s.driver with tasks := rest, heldRaw := (requestRaw r).or s.driver.heldRaw } }
    r i hreset rfl hresult htable hd hw
  exact ⟨_, _, _, (runs_succ 1 _ _ first).trans (runs_succ 0 _ _ second), answered,
    yields_of_conclude i s _ (exec_concludes i s hw fun _ => htable), step_drop _ _ answered ha, answered.quiet_takeResult,
    rfl, rfl, rfl⟩

end Sys2Proof.Proofs
end

section
/-! PROOF. A session whose device answers with Acks only (spec/43_session_controller.md R165, R167). `AckSession` says where such a
session is; one exchange, of a packet and its response, is six steps, and an induction over the chunks left joins the
exchanges. -/

namespace Sys2Proof.Machine

open Sys2Proof

/-! ### Receiving -/

/-- The driver reads, and the block parses what was read (R155). -/
theorem runs_receive (s : State) (b : List Byte) (u : Transport) (h : s.quiet) (ha : s.driver.act = .listen)
    (hr : s.transport.nextRead = (.bytes b, u)) :
    ∃ t, runs 2 s = .next t ∧ t.answered (parseOutcome s.config.crcTable s.config.strict b) ∧ t.config = s.config ∧
      t.driver = { s.driver with act := .awaitParse, heldRaw := some b } ∧ t.transport = u := by
  have first := step_listen s h ha
  rw [driverListen_bytes s b u hr] at first
  obtain ⟨second, answered⟩ := step_asked (s.withTransport u) (.parseResponse b) .awaitParse h rfl
  exact ⟨_, (runs_succ 1 _ _ first).trans (runs_succ 0 _ _ second), answered, rfl, rfl, rfl⟩

/-- The frame of one status byte parses as the response of that kind and status, in both modes (R138). -/
theorem parseOutcome_frame (t : CrcTable) (strict : Bool) (k : CommandKind) (ss : Byte) :
    parseOutcome t strict (frame t k.code [ss]) = .ok (.response k (decodeStatus ss)) := by
  have framed := (framingOk_iff (responseOf t k ss)).mpr ⟨rfl, ⟨rfl, rfl⟩, rfl⟩
  rw [frame_eq_responseOf_raw, parseOutcome, rspBytes_raw]
  exact interpretOutcome_ok t k _ strict framed (responseOf_agrees t k ss)

/-- After a packet whose response is awaited the driver listens (R155). -/
theorem Phase.actAfterWrite_of_awaited {p : Phase} {k : CommandKind} (h : p.afterWrite.awaited = some k) :
    p.actAfterWrite = .listen := by
  cases p with
  | idle | awaitingStartAck | awaitingInfoAck | sendingData | awaitingDataAck => rfl
  | awaitingStopAck | completed | aborted => cases h

/-! ### Where the session is -/

/-- The read of an acknowledgement (R165). -/
def ackRead (t : CrcTable) (k : CommandKind) : ReadResult := .bytes (frame t k.code [STATUS_ACK])

/-- A session over the image of `src` is in this session state, at this place, with so much acknowledged; nothing stands at the
block, these reads are listed, these packets have been sent, and no write is to fail. -/
structure AckSession (c : Config) (src : FirmwareSource) (md : FirmwareMetadata) (phase : Phase) (act : Act) (offset : Word)
    (reads : List ReadResult) (sent : List (List Byte)) (s : State) : Prop where
  quiet    : s.quiet
  config   : s.config = c
  phase    : s.driver.phase = phase
  act      : s.driver.act = act
  offset   : s.driver.offset = offset
  source   : s.driver.source = src
  metadata : s.driver.metadata = md
  reads    : s.transport.reads = reads
  sent     : s.transport.sent = sent
  writes   : ∀ w ∈ s.transport.writes, w = .done

section
variable {c : Config} {src : FirmwareSource} {md : FirmwareMetadata} {phase : Phase} {offset : Word}
  {reads : List ReadResult} {sent : List (List Byte)} {s : State}

/-- Where every write to come is done, the next one succeeds (R151; log 13). -/
theorem State.writeSucceeds_of_done (h : ∀ w ∈ s.transport.writes, w = .done) : s.writeSucceeds := by
  obtain hs | ⟨k, rest, hw⟩ := s.writeSucceeds_or_fails
  · exact hs
  · cases h (.failed k) (hw ▸ List.mem_cons_self)

/-- A packet is sent, its acknowledgement read and parsed, and the driver acts on it (R155 to R158). -/
theorem AckSession.exchange (k : CommandKind)
    (h : AckSession c src md phase .build offset (ackRead c.crcTable k :: reads) sent s)
    (i : Instr) (cmd : Byte) (payload : List Byte) (hb : s.driver.toBuild = some i) (hf : i.framed = some (cmd, payload))
    (hw : i.wf = true) (hk : phase.afterWrite.awaited = some k) :
    ∃ u, runs 6 s = .next (driverAck u) ∧
      AckSession c src md phase.afterWrite .awaitParse offset reads (sent ++ [frame c.crcTable cmd payload]) u := by
  obtain ⟨t, hsend, tquiet, tconfig, tdriver, ttransport⟩ :=
    runs_send s i cmd payload h.quiet h.act hb hf hw (State.writeSucceeds_of_done h.writes)
  have listens : t.driver.act = .listen := by
    rw [tdriver, Driver.written, h.phase]
    exact Phase.actAfterWrite_of_awaited hk
  have nextRead := t.transport.nextRead_cons (ackRead c.crcTable k) reads (by rw [ttransport]; exact h.reads)
  obtain ⟨u, hreceive, uanswered, uconfig, udriver, utransport⟩ := runs_receive t _ _ tquiet listens nextRead
  rw [tconfig, h.config, parseOutcome_frame] at uanswered
  have hack := step_ack u k uanswered (by rw [udriver]) (by rw [udriver, tdriver, Driver.written, h.phase]; exact hk)
  refine ⟨u.takeResult, ?run, ?_⟩
  case run => exact (runs_add 3 3 s t hsend).trans ((runs_add 2 1 t u hreceive).trans (runs_succ 0 _ _ hack))
  case _ =>
    exact
      { quiet := uanswered.quiet_takeResult
        config := uconfig.trans (tconfig.trans h.config)
        phase := by simp [udriver, tdriver, Driver.written, h.phase]
        act := by simp [udriver]
        offset := by simp [udriver, tdriver, Driver.written, h.offset]
        source := by simp [udriver, tdriver, Driver.written, h.source]
        metadata := by simp [udriver, tdriver, Driver.written, h.metadata]
        reads := by simp [utransport]
        sent := by simp [utransport, ttransport, Transport.wrote, h.sent, h.config]
        writes := fun w hw => h.writes w (List.mem_of_mem_tail (by simpa [utransport, ttransport, Transport.wrote] using hw)) }

/-- START and its acknowledgement (R156). -/
theorem AckSession.start (h : AckSession c src md .idle .build offset (ackRead c.crcTable .start :: reads) sent s) :
    ∃ t, runs 6 s = .next t ∧ AckSession c src md .awaitingInfoAck .build offset reads
      (sent ++ [frame c.crcTable CMD_START [START_PAYLOAD]]) t := by
  obtain ⟨u, hrun, hu⟩ := h.exchange .start .buildStart CMD_START [START_PAYLOAD] (Driver.toBuild_idle _ h.phase) rfl rfl rfl
  rw [driverAck_start u hu.phase] at hrun
  exact ⟨_, hrun, { hu with phase := rfl, act := rfl }⟩

/-- INFO and its acknowledgement (R157). -/
theorem AckSession.info (h : AckSession c src md .awaitingInfoAck .build offset (ackRead c.crcTable .info :: reads) sent s) :
    ∃ t, runs 6 s = .next t ∧ AckSession c src md .sendingData .build 0 reads
      (sent ++ [frame c.crcTable CMD_INFO (infoPayload md)]) t := by
  obtain ⟨u, hrun, hu⟩ := h.exchange .info (.buildInfo md) CMD_INFO (infoPayload md)
    ((Driver.toBuild_info _ h.phase).trans (by rw [h.metadata])) rfl rfl rfl
  rw [driverAck_info u hu.phase] at hrun
  exact ⟨_, hrun, { hu with phase := rfl, act := rfl, offset := rfl }⟩

/-- STOP (R160). -/
theorem AckSession.stop (h : AckSession c src md .awaitingStopAck .build offset reads sent s) :
    ∃ t, runs 3 s = .next t ∧ t.driver.phase = .completed ∧ t.driver.offset = offset ∧ t.transport.reads = reads ∧
      t.transport.sent = sent ++ [frame c.crcTable CMD_STOP [STOP_PAYLOAD]] := by
  obtain ⟨t, hrun, -, -, driver, transport⟩ := runs_send s .buildStop CMD_STOP [STOP_PAYLOAD] h.quiet h.act
    (Driver.toBuild_stop _ h.phase) rfl rfl (State.writeSucceeds_of_done h.writes)
  rw [Driver.written_stop _ h.phase] at driver
  refine ⟨t, hrun, by rw [driver]; rfl, by rw [driver]; exact h.offset, by rw [transport]; exact h.reads, ?_⟩
  rw [transport, Transport.wrote, h.sent, h.config]

/-! ### The chunks -/

/-- An empty image takes no DATA packet (R165). -/
theorem dataPackets_nil (t : CrcTable) : dataPackets t [] = [] := rfl

theorem chunkCount_eq_zero_iff (n : Nat) : chunkCount n = 0 ↔ n = 0 := by
  unfold chunkCount DATA_MAX
  omega

/-- One DATA packet takes the first 128 bytes, or what there is (R165). -/
theorem chunkCount_of_pos (n : Nat) (h : 0 < n) : chunkCount n = chunkCount (n - DATA_MAX) + 1 := by
  unfold chunkCount DATA_MAX
  omega

/-- The first DATA packet carries the first 128 bytes of the image, the others are those of the rest (R157, R165). -/
theorem dataPackets_of_pos (t : CrcTable) (image : List Byte) (h : 0 < image.length) :
    dataPackets t image = frame t CMD_DATA (image.take DATA_MAX) :: dataPackets t (image.drop DATA_MAX) := by
  unfold dataPackets
  rw [chunkCount_of_pos _ h, List.range_succ_eq_map, List.map_cons, List.map_map, List.length_drop, Nat.mul_zero,
    List.drop_zero]
  refine congrArg _ (List.map_congr_left fun j _ => ?_)
  rw [Function.comp_apply, List.drop_drop, Nat.mul_succ, Nat.add_comm]

/-- The bytes not yet acknowledged are as many as `total_size - offset` (R152, R214). -/
theorem length_rest (hw : src.wf = true) (offset : Word) :
    (src.bytes.drop offset.toNat).length = src.size.toNat - offset.toNat := by
  rw [List.length_drop, of_decide_eq_true hw]

/-- The chunk is the first 128 bytes not yet acknowledged, or what there is (R157). -/
theorem Driver.chunk_eq_take (d : Driver) (hw : d.source.wf = true) :
    d.chunk = (d.source.bytes.drop d.offset.toNat).take DATA_MAX := by
  rw [d.chunk_eq, List.take_eq_take_iff, length_rest hw, Driver.chunkLen, chunkLength]
  omega

/-- What is left after the chunk (R158). -/
theorem Driver.drop_nextOffset (d : Driver) (hw : d.source.wf = true) (h : d.offset.toNat ≤ d.source.size.toNat) :
    d.source.bytes.drop d.nextOffset.toNat = (d.source.bytes.drop d.offset.toNat).drop DATA_MAX := by
  rw [d.toNat_nextOffset h, ← List.drop_drop, List.drop_eq_drop_iff, length_rest hw, Driver.chunkLen, chunkLength]
  omega

/-- One chunk and its acknowledgement (R157, R158). -/
theorem AckSession.chunk (hw : src.wf = true)
    (h : AckSession c src md .sendingData .build offset (ackRead c.crcTable .firmwareData :: reads) sent s)
    (hlt : offset.toNat < src.size.toNat) :
    ∃ t offset', runs 6 s = .next t ∧ offset'.toNat ≤ src.size.toNat ∧
      src.bytes.drop offset'.toNat = (src.bytes.drop offset.toNat).drop DATA_MAX ∧
      AckSession c src md (if offset' = src.size then .awaitingStopAck else .sendingData) .build offset' reads
        (sent ++ [frame c.crcTable CMD_DATA ((src.bytes.drop offset.toNat).take DATA_MAX)]) t := by
  obtain rfl := h.source
  obtain rfl := h.offset
  have within := Nat.le_of_lt hlt
  have asks := s.driver.toBuild_chunk h.phase fun ho => Nat.ne_of_lt hlt (congrArg BitVec.toNat ho)
  obtain ⟨-, wf⟩ := Driver.toBuild_sound asks hw within
  obtain ⟨u, hrun, hu⟩ := h.exchange .firmwareData _ CMD_DATA s.driver.chunk asks (s.driver.framed_chunk hw within) wf rfl
  rw [driverAck_data u hu.phase] at hrun
  rw [s.driver.chunk_eq_take hw] at hu
  have next : u.driver.nextOffset = s.driver.nextOffset := by
    rw [Driver.nextOffset, Driver.nextOffset, Driver.chunkLen, Driver.chunkLen, hu.offset, hu.source]
  refine ⟨_, s.driver.nextOffset, hrun, s.driver.toNat_nextOffset within ▸ s.driver.offset_add_chunkLen_le within,
    s.driver.drop_nextOffset hw within, { hu with phase := ?_, act := rfl, offset := next }⟩
  rw [← next, ← hu.source]
  rfl

/-- The chunks left are sent and acknowledged one by one (R157, R158, R165). -/
theorem AckSession.chunks (hw : src.wf = true) (k : Nat) (offset : Word) (sent : List (List Byte)) (s : State)
    (hk : chunkCount (src.bytes.drop offset.toNat).length = k) (within : offset.toNat ≤ src.size.toNat)
    (h : AckSession c src md .sendingData .build offset
      (List.replicate k (ackRead c.crcTable .firmwareData)) sent s) :
    ∃ n t, n ≤ 1 + 6 * k ∧ runs n s = .next t ∧ AckSession c src md .awaitingStopAck .build src.size []
      (sent ++ dataPackets c.crcTable (src.bytes.drop offset.toNat)) t := by
  induction k generalizing offset sent s with
  | zero =>
    have none_left := (chunkCount_eq_zero_iff _).mp hk
    have whole : offset = src.size := BitVec.eq_of_toNat_eq (by rw [length_rest hw] at none_left; omega)
    have last := step_build s h.quiet h.act
    rw [driverBuild_wholeImage s h.phase (by rw [h.offset, h.source, whole])] at last
    rw [List.eq_nil_of_length_eq_zero none_left, dataPackets_nil, List.append_nil]
    exact ⟨1, _, Nat.le_refl _, runs_succ 0 _ _ last, { h with phase := rfl, act := rfl, offset := h.offset.trans whole }⟩
  | succ k ih =>
    have some_left : 0 < (src.bytes.drop offset.toNat).length := by
      by_contra hz
      have := (chunkCount_eq_zero_iff (src.bytes.drop offset.toNat).length).mpr (by omega)
      omega
    obtain ⟨t, offset', hrun, within', rest, ht⟩ := h.chunk hw (by rw [length_rest hw] at some_left; omega)
    have hk' : chunkCount (src.bytes.drop offset'.toNat).length = k := by
      rw [rest, List.length_drop]
      exact Nat.succ_injective ((chunkCount_of_pos _ some_left).symm.trans hk)
    rw [dataPackets_of_pos _ _ some_left, ← rest, List.append_cons]
    by_cases whole : offset' = src.size
    · rw [if_pos whole] at ht
      have none_left : src.bytes.drop offset'.toNat = [] :=
        List.eq_nil_of_length_eq_zero (by rw [length_rest hw, whole, Nat.sub_self])
      rw [none_left] at hk' ⊢
      obtain rfl : 0 = k := hk'
      rw [dataPackets_nil, List.append_nil, ← whole]
      exact ⟨6, t, by omega, hrun, ht⟩
    · rw [if_neg whole] at ht
      obtain ⟨n, u, hn, hrun', hu⟩ := ih offset' _ t hk' within' ht
      exact ⟨6 + n, u, by omega, (runs_add 6 n s t hrun).trans hrun', hu⟩

end

/-- A quiet driver at rest starts the session that is its task in `Idle` (R150). -/
theorem AckSession.of_task {s : State} {src : FirmwareSource} {md : FirmwareMetadata} {reads : List ReadResult} (h : s.quiet)
    (ha : s.driver.act = .rest) (ht : s.driver.tasks = [.session src md]) (hr : s.transport.reads = reads)
    (hw : ∀ w ∈ s.transport.writes, w = .done) :
    ∃ t, runs 1 s = .next t ∧ AckSession s.config src md .idle .build 0 reads s.transport.sent t :=
  ⟨_, runs_succ 0 _ _ (step_session s src md [] h ha ht),
    { quiet := h, config := rfl, phase := rfl, act := rfl, offset := rfl, source := rfl, metadata := rfl, reads := hr,
      sent := rfl, writes := hw }⟩

end Sys2Proof.Machine

namespace Sys2Proof.Proofs

open Sys2Proof Sys2Proof.Machine

/-- Settles O51: the start of the session, the exchanges of START, INFO and the chunks, and STOP, one after the other. -/
theorem allAckSessionCompletes : Obligations.AllAckSessionCompletes := by
  intro s src md h ha ht hw hwrites hreads
  obtain ⟨s1, run1, h1⟩ := AckSession.of_task h ha ht hreads hwrites
  obtain ⟨s2, run2, h2⟩ := h1.start
  obtain ⟨s3, run3, h3⟩ := h2.info
  obtain ⟨n, s4, hn, run4, h4⟩ := h3.chunks hw (chunkCount src.bytes.length) 0 _ s3 rfl (Nat.zero_le _)
  obtain ⟨t, run5, phase, offset, reads, sent⟩ := h4.stop
  refine ⟨1 + (6 + (6 + (n + 3))), t, by omega, ?run, phase, offset, reads, ?sent⟩
  case run =>
    calc runs (1 + (6 + (6 + (n + 3)))) s
        = runs (6 + (6 + (n + 3))) s1 := runs_add _ _ _ _ run1
      _ = runs (6 + (n + 3)) s2 := runs_add _ _ _ _ run2
      _ = runs (n + 3) s3 := runs_add _ _ _ _ run3
      _ = runs 3 s4 := runs_add _ _ _ _ run4
      _ = .next t := run5
  case sent =>
    rw [sent]
    simp

end Sys2Proof.Proofs
end

section
/-! PROOF. The requests without a meaning (spec/60_exceptions.md R184): the block refuses each of them. -/

namespace Sys2Proof.Machine

open Sys2Proof

/-- An `OPSEL` of `0x6` to `0xF` selects no operation, whatever operands follow (R75). -/
theorem decodeOperation_reserved (opsel : Byte) (operands : List Byte) (hlow : 6 ≤ opsel.toNat) (hhigh : opsel.toNat ≤ 15) :
    decodeOperation (opsel :: operands) = .error (.reservedOpsel opsel) := by
  unfold decodeOperation
  dsimp only
  split
  case h_7 => exact if_pos (by omega)
  -- the six selected operations, each with `opsel.toNat` below 6
  all_goals omega

/-- A request that stands alone and does not decode is refused for the reason the decoder gives (R184). -/
theorem step_undecodable (s : State) (r : Request) (e : DecodeError) (h : s.resetPending = false) (hr : s.requests = [r])
    (hn : s.result = none) (hd : decode r = .error e) : step s = .refused (refusalOf e) := by
  simp [step, h, hr, blockStep, hn, hd]

/-- A request beside another, or beside an outcome not yet taken, is refused before it is decoded (R184, R215). -/
theorem step_overlapping (s : State) (r : Request) (rest : List Request) (h : s.resetPending = false)
    (hr : s.requests = r :: rest) (ho : rest ≠ [] ∨ s.result ≠ none) : step s = .refused .overlappingRequest := by
  have overlap : rest ≠ [] ∨ s.result.isSome = true := ho.imp_right Option.isSome_iff_ne_none.mpr
  simp only [step, h, hr, blockStep, if_pos overlap, Bool.false_eq_true, if_false]

end Sys2Proof.Machine

namespace Sys2Proof.Proofs

open Sys2Proof Sys2Proof.Machine

/-- Settles O7: the contract of `BUILD_DATA` is broken, the `OPSEL` does not decode, or the request does not stand alone. -/
theorem requestsWithoutMeaningAreRefused : Obligations.RequestsWithoutMeaningAreRefused := by
  refine ⟨fun s input n broken => ?_, fun s opsel operands hlow hhigh hp hn hr => ?_, step_overlapping⟩
  · have outside : (Instr.buildData input n).wf = false := by
      rw [Bool.eq_false_iff, Ne, buildData_wf_iff, DATA_MAX]
      omega
    exact exec_refused_of_not_wf _ s outside
  · exact step_undecodable s _ _ hp hr hn (decodeOperation_reserved opsel operands hlow hhigh)

end Sys2Proof.Proofs
end

section
/-! PROOF. The outcomes of an operation (spec/60_exceptions.md R180 to R182, R187): the causes of each error of a parse, as
an equivalence on the bytes it reads, and the outcomes open to each request. -/

namespace Sys2Proof.Machine

open Sys2Proof

/-! ### The causes of the errors, once eight bytes are there -/

/-- A response is `Malformed` by its command byte in either mode, and by its framing in strict mode; it is a `ChecksumMismatch`
in strict mode alone, when command byte and framing hold and the checksum differs (R181, R182, R187). -/
theorem interpretOutcome_eq_error_iff (t : CrcTable) (strict : Bool) (c : Byte) (f : RspFields) :
    (interpretOutcome t strict c f = .error .malformed ↔
      ¬ definedCode c ∨ (strict = true ∧ framingOk f.startMark (fromLe16 f.lenLow f.lenHigh) f.endMark = false)) ∧
    (interpretOutcome t strict c f = .error .checksumMismatch ↔
      definedCode c ∧ strict = true ∧ framingOk f.startMark (fromLe16 f.lenLow f.lenHigh) f.endMark = true ∧
        ¬ responseAgrees t c f) := by
  cases hk : kindOfCode c with
  | none =>
    have hu : ¬ definedCode c := (kindOfCode_eq_none c).mp hk
    simp [interpretOutcome_undefined t strict c f hk, hu]
  | some k =>
    obtain rfl := code_of_kindOfCode c k hk
    have hd : definedCode k.code := definedCode_code k
    cases strict with
    | false => simp [interpretOutcome_lenient t k f, hd]
    | true =>
      cases hf : framingOk f.startMark (fromLe16 f.lenLow f.lenHigh) f.endMark with
      | false => simp [interpretOutcome_unframed t k f hf]
      | true =>
        by_cases hc : responseAgrees t k.code f
        · simp [interpretOutcome_ok t k f true hf hc, hd, hc]
        · simp [interpretOutcome_mismatch t k f hf hc, hd, hc]

/-! ### The causes, on the bytes presented -/

/-- Eight bytes or more begin with a response (R71, R131). -/
theorem eq_raw_append_of_rspBytes (raw : List Byte) (c : Byte) (f : RspFields) (h : rspBytes raw = some (c, f)) :
    ∃ rest, raw = f.raw c ++ rest := by
  unfold rspBytes at h
  split at h
  case h_1 rest =>
    cases h
    exact ⟨rest, rfl⟩
  case h_2 => cases h

/-- What strict mode requires at the offsets of marker and length is the framing of the response there (R71, R133). -/
theorem framingOk_eq_false_iff (c : Byte) (f : RspFields) (rest : List Byte) :
    framingOk f.startMark (fromLe16 f.lenLow f.lenHigh) f.endMark = false ↔
      (f.raw c ++ rest)[0]? ≠ some 0x2A ∨ (f.raw c ++ rest)[2]? ≠ some 0x01 ∨ (f.raw c ++ rest)[3]? ≠ some 0x00 ∨
        (f.raw c ++ rest)[7]? ≠ some 0x23 := by
  rw [Bool.eq_false_iff, Ne, framingOk_iff]
  simp only [RspFields.raw, List.cons_append, List.getElem?_cons_zero, List.getElem?_cons_succ, ne_eq, Option.some.injEq]
  tauto

/-- The command byte of a response is the byte at offset 1 (R61). -/
theorem exists_undefined_command_iff (c : Byte) (f : RspFields) (rest : List Byte) :
    (∃ b, (f.raw c ++ rest)[1]? = some b ∧ ¬ definedCode b) ↔ ¬ definedCode c := by
  simp [RspFields.raw]

/-- The checksum field and the checksummed bytes of a response are those at offsets 5 and 6 and at offsets 1 to 4 (R65, R71). -/
theorem exists_checksum_differs_iff (t : CrcTable) (c : Byte) (f : RspFields) (rest : List Byte) :
    (∃ l h, (f.raw c ++ rest)[5]? = some l ∧ (f.raw c ++ rest)[6]? = some h ∧
      fromLe16 l h ≠ checksum t (slice (f.raw c ++ rest) 1 5)) ↔ ¬ responseAgrees t c f := by
  simp [RspFields.raw, slice, responseAgrees]

/-- A lenient parse makes no checksum check (R132). -/
theorem strict_of_parseOutcome_checksumMismatch (t : CrcTable) (strict : Bool) (raw : List Byte)
    (h : parseOutcome t strict raw = .error .checksumMismatch) : strict = true := by
  unfold parseOutcome at h
  split at h
  case h_1 => cases h
  case h_2 c f _ =>
    obtain ⟨-, hs, -⟩ := (interpretOutcome_eq_error_iff t strict c f).2.mp h
    exact hs

/-! ### The closed set of outcomes -/

theorem OpOutcome.code_eq_zero_iff (o : OpOutcome) : o.code = 0 ↔ ∃ v, o = .ok v := by
  unfold OpOutcome.code
  split <;> simp

theorem OpOutcome.code_eq_two_iff (o : OpOutcome) : o.code = 2 ↔ o = .error .checksumMismatch := by
  unfold OpOutcome.code
  split <;> simp

theorem OpOutcome.code_le_two (o : OpOutcome) : o.code ≤ 2 := by
  unfold OpOutcome.code
  split <;> simp

/-- Every outcome is `Ok`, or an error that is its kind and nothing more (R180, R183). -/
theorem OpOutcome.code_zero_or_error (o : OpOutcome) :
    o.code = 0 ∨ o = .error .malformed ∨ o = .error .checksumMismatch := by
  unfold OpOutcome.code
  split <;> simp

/-- A request that is no parse ends in `Ok` (R180). -/
theorem outcomeOf_code_of_not_isParse (t : CrcTable) (strict : Bool) (i : Instr) (h : i.isParse = false) :
    (outcomeOf t strict i).code = 0 := by
  cases i with
  | checksum | buildStart | buildInfo | buildData | buildStop => rfl
  | _ => cases h

/-- A request that ends in an error is a parse (R180). -/
theorem isParse_of_outcomeOf_code_ne_zero (t : CrcTable) (strict : Bool) (i : Instr)
    (h : (outcomeOf t strict i).code ≠ 0) : i.isParse = true := by
  contrapose! h
  exact outcomeOf_code_of_not_isParse t strict i (Bool.eq_false_iff.mpr h)

/-- A request that ends in `ChecksumMismatch` is a strict parse (R180, R182). -/
theorem strictParse_of_outcomeOf_code_eq_two (t : CrcTable) (strict : Bool) (i : Instr)
    (h : (outcomeOf t strict i).code = 2) : i.isParse = true ∧ strict = true := by
  have hp : i.isParse = true := isParse_of_outcomeOf_code_ne_zero t strict i (by rw [h]; decide)
  obtain ⟨raw, hraw⟩ := Option.isSome_iff_exists.mp ((rawOperand_isSome i).trans hp)
  rw [outcomeOf_of_rawOperand t strict i raw hraw, OpOutcome.code_eq_two_iff] at h
  exact ⟨hp, strict_of_parseOutcome_checksumMismatch t strict raw h⟩

end Sys2Proof.Machine

namespace Sys2Proof.Proofs

open Sys2Proof Sys2Proof.Machine

/-- Settles O8: the request concludes with `outcomeOf`, and a code other than 0 is a parse's. -/
theorem everyOperationEndsInOneOutcome : Obligations.EveryOperationEndsInOneOutcome := by
  intro i s hw ht
  exact ⟨outcomeOf s.config.crcTable s.config.strict i, yields_of_conclude i s _ (exec_concludes i s hw fun _ => ht),
    outcomeOf_code_of_not_isParse _ _ i, fun h => isParse_of_outcomeOf_code_ne_zero _ _ i (by rw [h]; decide),
    strictParse_of_outcomeOf_code_eq_two _ _ i, OpOutcome.code_le_two _, OpOutcome.code_eq_zero_iff _⟩

/-- Settles O29: fewer than eight bytes are `Malformed`; from eight on the outcome is that of the response they begin with. -/
theorem causesOfTheErrorOutcomes : Obligations.CausesOfTheErrorOutcomes := by
  intro s raw h short undefinedCode unframed broken differs
  cases hr : rspBytes raw with
  | none =>
    have hl : short := (rspBytes_eq_none raw).mp hr
    exact ⟨_, shortResponseIsMalformed s raw h hl, iff_of_true rfl (.inl hl),
      iff_of_false nofun fun ⟨sound, _⟩ => sound (.inl hl)⟩
  | some cf =>
    obtain ⟨c, f⟩ := cf
    obtain ⟨rest, rfl⟩ := eq_raw_append_of_rspBytes raw c f hr
    have long : ¬ short := fun hl => nomatch hr.symm.trans ((rspBytes_eq_none _).mpr hl)
    have hbroken : broken ↔ ¬ definedCode c ∨
        (s.config.strict = true ∧ framingOk f.startMark (fromLe16 f.lenLow f.lenHigh) f.endMark = false) := by
      rw [framingOk_eq_false_iff c f rest, ← exists_undefined_command_iff c f rest]
      exact or_iff_right long
    have hdiffers : differs ↔ ¬ responseAgrees s.config.crcTable c f := exists_checksum_differs_iff _ c f rest
    obtain ⟨malformed, checksumMismatch⟩ := interpretOutcome_eq_error_iff s.config.crcTable s.config.strict c f
    refine ⟨_, yields_interpretOutcome s _ c f h hr, malformed.trans hbroken.symm, checksumMismatch.trans ?_⟩
    rw [hbroken, hdiffers, not_or, not_not, not_and, Bool.not_eq_false]
    exact ⟨fun ⟨hd, hs, hf, hc⟩ => ⟨⟨hd, fun _ => hf⟩, hs, hc⟩, fun ⟨⟨hd, hf⟩, hs, hc⟩ => ⟨hd, hs, hf hs, hc⟩⟩

end Sys2Proof.Proofs
end

section
/-! PROOF. The `RAW` bytes the driver holds (spec/60_exceptions.md R183): it holds them from the request of a parse on, and taking
the outcome does not drop them. -/

namespace Sys2Proof.Machine

open Sys2Proof

/-- In a quiet state the table is valid, so a parse has a defined result (R213). -/
theorem State.quiet.parseReady {s : State} (h : s.quiet) : ParseReady s := by
  obtain ⟨-, -, -, htable⟩ := h
  exact fun _ => htable

/-- However the driver takes the outcome of a parse, it goes on holding what it held (R183; log 25). -/
theorem DriverMove.heldRaw_of_awaitParse {s t : State} (h : DriverMove s t) (ha : s.driver.act = .awaitParse) :
    t.driver.heldRaw = s.driver.heldRaw := by
  cases h with
  -- the moves that change what is held start from another place of the driver
  | request _ _ hplace | session _ _ _ hplace | ask _ hplace | read _ _ hplace => cases hplace.symm.trans ha
  | _ => rfl

section
variable (s : State)

/-- The step after the outcome of a parse stands takes it, in a session or at rest, and leaves the driver what it holds
(R155, R183). -/
theorem step_takes_parse (o : OpOutcome) (h : s.answered o) (ho : o.isParse = true)
    (ha : s.driver.act = .awaitParse ∨ s.driver.act = .rest) :
    ∃ u, step s = .next u ∧ u.driver.heldRaw = s.driver.heldRaw := by
  obtain ha | ha := ha
  · obtain ⟨u, hu⟩ := driverTakeParse_goes_on o h.result_eq ho
    rw [← driverStep_awaitParse s ha] at hu
    exact ⟨u, (step_of_answered s o h).trans hu, (driverStep_next s u hu).heldRaw_of_awaitParse ha⟩
  · exact ⟨_, step_drop s o h ha, rfl⟩

/-- A request passes bytes in to a parse only if it decodes to a parse of those bytes (R31). -/
theorem decode_of_requestRaw {r : Request} {raw : List Byte} (h : requestRaw r = some raw) :
    ∃ i, decode r = .ok i ∧ rawOperand i = some raw := by
  unfold requestRaw at h
  split at h
  case h_1 i hd => exact ⟨i, hd, h⟩
  case h_2 => cases h

/-- Every parse keeps its contract, since it has none (R116). -/
theorem wf_of_rawOperand {i : Instr} {raw : List Byte} (h : rawOperand i = some raw) : i.wf = true := by
  cases i with
  | buildData => cases h
  | _ => rfl

/-- At rest, the driver's direct request of a parse is answered in two steps, and the driver holds its bytes (R168, R183). -/
theorem runs_direct_parse (r : Request) (rest : List Task) (raw : List Byte) (h : s.quiet) (ha : s.driver.act = .rest)
    (ht : s.driver.tasks = .request r :: rest) (hraw : requestRaw r = some raw) :
    ∃ t, runs 2 s = .next t ∧ t.answered (parseOutcome s.config.crcTable s.config.strict raw) ∧
      t.driver = { s.driver with tasks := rest, heldRaw := some raw } := by
  obtain ⟨i, hd, hi⟩ := decode_of_requestRaw hraw
  have first := step_request s r rest h ha ht
  obtain ⟨hreset, -, hresult, htable⟩ := h
  obtain ⟨second, answered⟩ := step_answers
    { s with requests := [r], driver := { s.driver with tasks := rest, heldRaw := (requestRaw r).or s.driver.heldRaw } }
    r i hreset rfl hresult htable hd (wf_of_rawOperand hi)
  rw [outcomeOf_of_rawOperand _ _ i raw hi] at second answered
  refine ⟨_, (runs_succ 1 _ _ first).trans (runs_succ 0 _ _ second), answered, ?_⟩
  rw [State.conclude_driver, hraw]
  rfl

end

end Sys2Proof.Machine

namespace Sys2Proof.Proofs

open Sys2Proof Sys2Proof.Machine

/-- Settles O56: the bytes of a read and of a direct request are parsed alike, and the step that takes the outcome keeps them. -/
theorem driverStillHoldsTheRawBytes : Obligations.DriverStillHoldsTheRawBytes := by
  intro s raw h asks
  have ready : ParseReady s := h.parseReady
  have parsed : ∃ t, runs 2 s = .next t ∧ t.answered (parseOutcome s.config.crcTable s.config.strict raw) ∧
      t.driver.heldRaw = some raw ∧ (t.driver.act = .awaitParse ∨ t.driver.act = .rest) := by
    obtain ⟨ha, hr⟩ | ⟨ha, r, rest, ht, hraw⟩ := asks
    · obtain ⟨t, hrun, answered, -, hdriver, -⟩ := runs_receive s raw s.transport.nextRead.2 h ha (Prod.ext hr rfl)
      exact ⟨t, hrun, answered, by rw [hdriver], .inl (by rw [hdriver])⟩
    · obtain ⟨t, hrun, answered, hdriver⟩ := runs_direct_parse s r rest raw h ha ht hraw
      exact ⟨t, hrun, answered, by rw [hdriver], .inr (by rw [hdriver, ha])⟩
  obtain ⟨t, hrun, answered, held, place⟩ := parsed
  have isParse : (parseOutcome s.config.crcTable s.config.strict raw).isParse = true :=
    (outcomeOf_of_isParse _ _ (.parseResponse raw) rfl).1
  obtain ⟨u, hu, kept⟩ := step_takes_parse t _ answered isParse place
  exact ⟨t, _, u, hrun, answered, yields_parseOutcome _ raw s rfl ready, OpOutcome.code_zero_or_error _, held, hu,
    kept.trans held⟩

end Sys2Proof.Proofs
end

section
/-! PROOF. A reset, and a table that is not initialised (spec/70_reset_and_hazards.md R212, R213). -/

namespace Sys2Proof.Proofs

open Sys2Proof Sys2Proof.Machine

/-- Settles O12: all but a lenient parse read the table, and a lenient parse completes without it. -/
theorem noChecksumBeforeTheTableIsValid : Obligations.NoChecksumBeforeTheTableIsValid := by
  intro i s ht hw
  refine ⟨fun reads => exec_refused_of_table i s hw ?_ ht, fun hp hs => ?_⟩
  · obtain hp | hs := reads
    · simp [readsTable, hp]
    · simp [readsTable, hs]
  · have readsNone : readsTable s.config.strict i = false := by simp [readsTable, hp, hs]
    exact ⟨_, yields_of_conclude i s _ (exec_concludes i s hw fun reads => nomatch readsNone.symm.trans reads)⟩

/-- Settles O13: the step is the reset, which leaves these values. -/
theorem resetAbandonsTheOperation : Obligations.ResetAbandonsTheOperation := fun s h =>
  ⟨s.blockReset, step_reset s h, rfl, rfl, rfl, rfl, rfl, rfl, rfl, rfl⟩

end Sys2Proof.Proofs
end

section
/-! PROOF. A wait without end (spec/70_reset_and_hazards.md R222). A round of the wait is three steps: a read, its parse, and the
taking of an outcome that does not end the wait (`runs_round`). A read brings nothing new into what the transport may yet return
(`Transport.MayReturn.of_nextRead`), so round follows round (`runs_rounds`). -/

namespace Sys2Proof.Machine

open Sys2Proof

/-! ### What the transport may yet return -/

/-- The transport may yet return this, listed or later; beyond that it may be silent (R168, R222; log 13). -/
inductive Transport.MayReturn (t : Transport) : ReadResult → Prop
  | listed {r : ReadResult} (h : r ∈ t.reads) : MayReturn t r
  | cycled {r : ReadResult} (rs : List ReadResult) (hl : t.later = .cycle rs) (h : r ∈ rs) : MayReturn t r
  | drawn (k : Nat) (hl : t.later = .free) (h : t.drawn ≤ k) : MayReturn t (freeReadResult k)

/-- The next read is one of these, or silence (R151). -/
theorem Transport.nextRead_mayReturn (t : Transport) : t.nextRead.1 = .bytes [] ∨ t.MayReturn t.nextRead.1 := by
  cases hr : t.reads with
  | cons r rest =>
    rw [t.nextRead_cons r rest hr]
    exact .inr (.listed (hr ▸ List.mem_cons_self))
  | nil =>
    rw [t.nextRead_nil hr]
    match hl : t.later with
    | .cycle [] =>
      rw [t.laterRead_silent hl]
      exact .inl rfl
    | .cycle (r :: rs) =>
      rw [t.laterRead_cycle r rs hl]
      exact .inr (.cycled _ hl List.mem_cons_self)
    | .free =>
      rw [t.laterRead_free hl]
      exact .inr (.drawn _ hl (Nat.le_refl _))

/-- A read uses up a listed result or a draw, or turns the cycle; it brings nothing new (R151). -/
theorem Transport.MayReturn.of_nextRead {t : Transport} {r : ReadResult} (h : t.nextRead.2.MayReturn r) : t.MayReturn r := by
  cases hr : t.reads with
  | cons x rest =>
    rw [t.nextRead_cons x rest hr] at h
    cases h with
    | listed h => exact .listed (hr ▸ List.mem_cons_of_mem x h)
    | cycled rs hl h => exact .cycled rs hl h
    | drawn k hl h => exact .drawn k hl h
  | nil =>
    rw [t.nextRead_nil hr] at h
    match hl : t.later with
    | .cycle [] =>
      rwa [t.laterRead_silent hl] at h
    | .cycle (x :: rs) =>
      rw [t.laterRead_cycle x rs hl] at h
      cases h with
      | listed h => exact .listed h
      | cycled _ turned h =>
        cases turned
        exact .cycled _ hl (by simpa [or_comm] using h)
      | drawn _ free => cases free
    | .free =>
      rw [t.laterRead_free hl] at h
      cases h with
      | listed h => exact .listed h
      | cycled rs cyclic h => exact .cycled rs cyclic h
      | drawn k _ h => exact .drawn k hl (Nat.le_of_succ_le h)

/-- The transport after some reads (R151). -/
def Transport.afterReads (t : Transport) : Nat → Transport
  | 0 => t
  | n + 1 => t.nextRead.2.afterReads n

/-- Reads leave alone what was written and what the writes to come return (R151). -/
theorem Transport.afterReads_keeps (t : Transport) (n : Nat) :
    (t.afterReads n).sent = t.sent ∧ (t.afterReads n).writes = t.writes := by
  induction n generalizing t with
  | zero => exact ⟨rfl, rfl⟩
  | succ n ih =>
    obtain ⟨sent, writes⟩ := t.nextRead_keeps
    obtain ⟨sent', writes'⟩ := ih t.nextRead.2
    exact ⟨sent'.trans sent, writes'.trans writes⟩

/-- A read of a silent transport is empty and leaves it as it is (R222; log 13). -/
theorem Transport.nextRead_silent (t : Transport) (hr : t.reads = []) (hl : t.later = .cycle []) :
    t.nextRead = (.bytes [], t) := (t.nextRead_nil hr).trans (t.laterRead_silent hl)

/-- So do any number of reads. -/
theorem Transport.afterReads_silent (t : Transport) (hr : t.reads = []) (hl : t.later = .cycle []) (n : Nat) :
    t.afterReads n = t := by
  induction n with
  | zero => rfl
  | succ n ih => rwa [Transport.afterReads, t.nextRead_silent hr hl]

section
variable {s t : State}

/-! ### Reads that do not end the wait -/

/-- Whether a read ends the wait is decided by what its bytes parse as (R155). -/
theorem State.unmovedBy_iff (ready : ParseReady s) (r : ReadResult) :
    s.unmovedBy r ↔ ∃ b, r = .bytes b ∧ ∀ k status, s.driver.phase.awaited = some k →
      parseOutcome s.config.crcTable s.config.strict b ≠ .ok (.response k status) := by
  unfold State.unmovedBy
  refine exists_congr fun b => and_congr_right fun _ => forall₂_congr fun k status => ?_
  rw [exec_parseResponse_ready b s ready]
  constructor
  · intro other hk ho
    exact other _ hk rfl (congrArg some ho)
  · rintro other t hk ⟨⟩ hr
    exact other hk (Option.some.inj hr)

/-- An empty read is no response (R131, R155). -/
theorem State.unmovedBy_empty (ready : ParseReady s) : s.unmovedBy (.bytes []) :=
  (State.unmovedBy_iff ready _).mpr ⟨[], rfl, fun _ _ _ => nofun⟩

/-- Only the parameters and the session state count (R20, R155). -/
theorem State.unmovedBy.of_same {r : ReadResult} (h : s.unmovedBy r) (ready : ParseReady s) (ready' : ParseReady t)
    (config : t.config = s.config) (phase : t.driver.phase = s.driver.phase) : t.unmovedBy r := by
  rw [State.unmovedBy_iff ready] at h
  rwa [State.unmovedBy_iff ready', config, phase]

/-! ### The unhelpful device -/

/-- The device is unhelpful when nothing its transport may yet return ends the wait (R222). -/
theorem State.deviceUnhelpful_iff : s.deviceUnhelpful ↔ ∀ r, s.transport.MayReturn r → s.unmovedBy r := by
  constructor
  · rintro ⟨listed, later⟩ r hr
    cases hr with
    | listed h => exact listed r h
    | cycled rs hl h =>
      rw [hl] at later
      exact later r h
    | drawn k hl h =>
      rw [hl] at later
      exact later k h
  · intro h
    refine ⟨fun r hr => h r (.listed hr), ?_⟩
    split
    case h_1 rs hl => exact fun r hr => h r (.cycled rs hl hr)
    case h_2 hl => exact fun k hk => h _ (.drawn k hl hk)

/-- What it sends next does not end the wait (R222). -/
theorem State.deviceUnhelpful.unmovedBy_nextRead (h : s.deviceUnhelpful) (ready : ParseReady s) :
    s.unmovedBy s.transport.nextRead.1 := by
  obtain silent | may := s.transport.nextRead_mayReturn
  · rw [silent]
    exact State.unmovedBy_empty ready
  · exact State.deviceUnhelpful_iff.mp h _ may

/-- A silent device is unhelpful (R222). -/
theorem State.deviceUnhelpful_of_silent (hr : s.transport.reads = []) (hl : s.transport.later = .cycle []) :
    s.deviceUnhelpful := by
  rw [State.deviceUnhelpful_iff]
  intro r may
  cases may with
  | listed h => simp [hr] at h
  | cycled rs cyclic h =>
    cases hl.symm.trans cyclic
    cases h
  | drawn _ free => cases hl.symm.trans free

/-! ### Rounds of the wait -/

/-- The driver reads, the block parses what was read, and the driver reads again (R155). -/
theorem runs_round (h : s.quiet) (ha : s.driver.act = .listen) (hc : s.config.onMalformed = .retry)
    (hb : s.config.waitBound = none) (hu : s.unmovedBy s.transport.nextRead.1) :
    ∃ t, runs 3 s = .next t ∧ t.quiet ∧ t.config = s.config ∧ t.transport = s.transport.nextRead.2 ∧
      t.driver = { s.driver with waited := s.driver.waited + 1, heldRaw := t.driver.heldRaw } := by
  obtain ⟨b, hread, other⟩ := (State.unmovedBy_iff h.parseReady _).mp hu
  obtain ⟨u, received, answered, config, driver, transport⟩ := runs_receive s b _ h ha (Prod.ext hread rfl)
  obtain ⟨ignored, -⟩ := Proofs.unawaitedResponsesAreIgnored u _ answered (by rw [driver])
  obtain ⟨t, taken, quiet, config', transport', driver'⟩ := ignored (by rw [config, hb]) (by
    rw [config, driver]
    obtain ⟨e, he⟩ | ⟨k, st, hk, -⟩ := parseOutcome_cases s.config.crcTable s.config.strict b
    · exact .inl ⟨⟨e, he⟩, hc⟩
    · exact .inr ⟨k, st, hk, fun awaited => other k st awaited hk⟩)
  have run := (runs_add 2 1 s u received).trans (runs_succ 0 u t taken)
  refine ⟨t, run, quiet, config'.trans config, transport'.trans transport, ?_⟩
  rw [driver', driver, ← ha]

/-- With an unhelpful device one round follows another, one read each (R222). -/
theorem runs_rounds (n : Nat) (h : s.quiet) (ha : s.driver.act = .listen) (hc : s.config.onMalformed = .retry)
    (hb : s.config.waitBound = none) (hu : s.deviceUnhelpful) :
    ∃ t, runs (3 * n) s = .next t ∧ t.quiet ∧ t.config = s.config ∧ t.transport = s.transport.afterReads n ∧
      t.driver = { s.driver with waited := s.driver.waited + n, heldRaw := t.driver.heldRaw } ∧ t.deviceUnhelpful := by
  induction n generalizing s with
  | zero => exact ⟨s, rfl, h, rfl, rfl, rfl, hu⟩
  | succ n ih =>
    obtain ⟨u, round, quiet, config, transport, driver⟩ :=
      runs_round h ha hc hb (hu.unmovedBy_nextRead h.parseReady)
    have unhelpful : u.deviceUnhelpful := State.deviceUnhelpful_iff.mpr fun r may =>
      (State.deviceUnhelpful_iff.mp hu r (Transport.MayReturn.of_nextRead (transport ▸ may))).of_same h.parseReady
        quiet.parseReady config (by rw [driver])
    obtain ⟨t, rounds, quiet', config', transport', driver', unhelpful'⟩ :=
      ih quiet (by rw [driver, ha]) (by rw [config, hc]) (by rw [config, hb]) unhelpful
    refine ⟨t, ?_, quiet', config'.trans config, ?_, ?_, unhelpful'⟩
    · rw [Nat.mul_succ, Nat.add_comm, runs_add 3 _ s u round, rounds]
    · rw [transport', transport]
      rfl
    · rw [driver', driver, Nat.add_right_comm]
      rfl

/-- Within a round the session is where it was; so is the transport, when the read leaves it as it is (R155). -/
theorem runs_within_round (b : List Byte) (m : Nat) (hm : m < 3) (h : s.quiet) (ha : s.driver.act = .listen)
    (hr : s.transport.nextRead = (.bytes b, s.transport)) :
    ∃ t, runs m s = .next t ∧ t.driver.phase = s.driver.phase ∧ t.driver.offset = s.driver.offset ∧
      t.transport = s.transport := by
  match m, hm with
  | 0, _ => exact ⟨s, rfl, rfl, rfl, rfl⟩
  | 1, _ => exact ⟨_, runs_succ 0 _ _ (step_read s b _ h ha hr), rfl, rfl, rfl⟩
  | 2, _ =>
    obtain ⟨t, received, -, -, driver, transport⟩ := runs_receive s b _ h ha hr
    exact ⟨t, received, by rw [driver], by rw [driver], transport⟩

end

end Sys2Proof.Machine

namespace Sys2Proof.Proofs

open Sys2Proof Sys2Proof.Machine

/-- Settles O54: the rounds of the wait write nothing. -/
theorem unhelpfulDeviceWaitsForEver : Obligations.UnhelpfulDeviceWaitsForEver := by
  intro n s h ha hc hb hu
  obtain ⟨t, run, quiet, config, transport, driver, unhelpful⟩ := runs_rounds n h ha hc hb hu
  obtain ⟨sent, writes⟩ := s.transport.afterReads_keeps n
  exact ⟨t, run, quiet, config, driver, transport ▸ sent, transport ▸ writes, unhelpful⟩

/-- Settles O46: any number of steps is a number of rounds and at most two steps of the next. -/
theorem silentDeviceWaitsForEver : Obligations.SilentDeviceWaitsForEver := by
  intro n s h ha hr hl hc hb
  obtain ⟨u, rounds, quiet, -, transport, driver, -⟩ :=
    runs_rounds (n / 3) h ha hc hb (State.deviceUnhelpful_of_silent hr hl)
  rw [s.transport.afterReads_silent hr hl] at transport
  have silent : u.transport.nextRead = (.bytes [], u.transport) :=
    u.transport.nextRead_silent (by rw [transport, hr]) (by rw [transport, hl])
  obtain ⟨t, rest, phase, offset, transport'⟩ :=
    runs_within_round [] (n % 3) (Nat.mod_lt n (by decide)) quiet (by rw [driver, ha]) silent
  refine ⟨t, ?_, by rw [phase, driver], by rw [offset, driver], transport'.trans transport⟩
  rw [← Nat.div_add_mod n 3, runs_add _ _ s u rounds, rest]

end Sys2Proof.Proofs
end
